-- ==== Sys2Proof/Word.lean ====
section
/-! DEFINITION. The two word types of the SDSPI core: the byte of the serial bus and of the host buffer, and the
32-bit word of the register window (spec/00_scope.md R7, R9). Every value is unsigned. -/

namespace Sys2Proof

/-- u8: the atomic bus unit (R6) and the unit of HOSTBUF (R61). -/
abbrev Byte := BitVec 8

/-- u32: sectors, counts, command arguments and host registers (R7). -/
abbrev Word := BitVec 32

end Sys2Proof
end

