-- ==== Sys2Proof/Machine/Codes.lean ====
section
/-! DEFINITION. The result codes of spec/60_exceptions.md R280: the closed set of nine error kinds and success. -/

namespace Sys2Proof

/-- The result kinds of R280. Codes 10-15 are never produced (R27, U12): they are not representable. -/
inductive Err where
  | ok
  | noCard
  | timeout
  | commandRejected
  | commandCrcError
  | dataCrcError
  | unexpectedDataToken
  | writeRejected
  | cardInternalError
  | parameterOutOfRange
  deriving DecidableEq, Repr, Inhabited

/-- The number stored in `RESULT.CODE` (R27, R280). -/
def Err.code : Err → BitVec 4
  | .ok => 0
  | .noCard => 1
  | .timeout => 2
  | .commandRejected => 3
  | .commandCrcError => 4
  | .dataCrcError => 5
  | .unexpectedDataToken => 6
  | .writeRejected => 7
  | .cardInternalError => 8
  | .parameterOutOfRange => 9

/-- The first of two results that is not `OK`, else `OK` (the precedence of R225 and R235: a later error never
replaces an earlier one). -/
def Err.orElse (e later : Err) : Err :=
  match e with
  | .ok => later
  | _ => e

end Sys2Proof
end

