-- ==== Sys2Proof/Config.lean ====
section
/-! DEFINITION. The implementation parameters of spec/00_scope.md R7, the constants the spec fixes, and the free values:
quantities the spec leaves open, which no proof can evaluate. -/

namespace Sys2Proof

/-- What one unit of the time input `Now` measures (R7, R123): `perExchange` is the reference configuration (one unit
per byte exchange, `Now()` = exchanges since reset); `platform` is any other monotone time input. -/
inductive TimeBase where
  | perExchange
  | platform
  deriving DecidableEq, Repr

/-- The OPEN parameters of R7, fixed for the life of the machine. -/
structure Config where
  /-- CRC_ENABLE -/
  crcEnable : Bool
  /-- GO_IDLE_ATTEMPTS -/
  goIdleAttempts : Nat
  /-- READ_ATTEMPTS -/
  readAttempts : Nat
  /-- T_TOKEN -/
  tToken : Nat
  /-- T_BUSY -/
  tBusy : Nat
  /-- T_OPCOND -/
  tOpcond : Nat
  /-- PRE_ERASE -/
  preErase : Bool
  /-- HOSTBUF_SIZE -/
  hostbufSize : Nat
  /-- the time unit of `Now` -/
  timeBase : TimeBase
  deriving DecidableEq, Repr

/-- The ranges R7 gives: every count and deadline is at least 1, the host buffer at least 512 bytes. -/
def Config.wf (c : Config) : Bool :=
  decide (1 ≤ c.goIdleAttempts) && decide (1 ≤ c.readAttempts) && decide (1 ≤ c.tToken) && decide (1 ≤ c.tBusy) &&
    decide (1 ≤ c.tOpcond) && decide (512 ≤ c.hostbufSize)

/-- The reference configuration of spec/92_eei_decisions.md D52. DESIGN CHOICE (log entry 1, unsafe): the reset state
carries it; every claim that quantifies over states quantifies over configurations. -/
def Config.reference : Config where
  crcEnable := true
  goIdleAttempts := 5
  readAttempts := 3
  tToken := 100
  tBusy := 100
  tOpcond := 200
  preErase := true
  hostbufSize := 65536
  timeBase := .perExchange

/-- The byte the card returns in the exchange with draw index `n`, when no byte is scripted: a free draw (R120, D3, U4). -/
opaque Config.freeMiso : Nat → Byte

/-- By how much a platform time input has advanced since its previous sample, at draw index `n`: free, so the samples form
any monotone sequence (R123, U3). -/
opaque Config.freeTick : Nat → Nat

/-- The value left in a counting working register by a completion (R45, U15: unspecified). -/
opaque Config.freeNat : Nat → Nat

/-- The value left in `FIRST_ERR` by a completion (R45, U15: unspecified). -/
opaque Config.freeErr : Nat → Err

end Sys2Proof
end

