-- ==== Sys2Proof/Machine/State.lean ====
section
/-! DEFINITION. The state of the SDSPI core as plain data (spec/10_state.md), the sequencer's positions (R43), the events of
the host and the environment (R5, R48), the machine right after reset (R50), and the reasons a step can stop. -/

namespace Sys2Proof.Machine

/-- The session's lifecycle (R32). The code 3 is never produced (U13): it is not representable. -/
inductive Lifecycle where
  | uninit
  | idle
  | ready
  deriving DecidableEq, Repr

/-- HOSTBUF: (address, byte) cells in one canonical form (R61). -/
abbrev Mem := List Host.Cell

/-- What the host and the environment do to the block, one event per step (R5, R48). The MODEL's own schedule: which agent
moves next (log entry 5). -/
inductive Input where
  /-- a host write of a 32-bit word at a byte offset of the register window (R21-R25) -/
  | write (off : Nat) (v : Word)
  /-- a host read of a 32-bit word (R21, R70) -/
  | read (off : Nat)
  /-- a host access narrower than 32 bits (R30) -/
  | narrow (off : Nat)
  /-- a host write of one byte of HOSTBUF (R61, R77) -/
  | bufWrite (a : Nat) (b : Byte)
  /-- a host read of one byte of HOSTBUF -/
  | bufRead (a : Nat)
  /-- the card-detect input takes a level (R124) -/
  | cardDetect (p : Bool)
  /-- the block's reset (R320) -/
  | reset
  /-- the controller takes its step -/
  | run
  /-- the host waits until `STATUS.BUSY` = 0 (R104): the controller steps until then -/
  | wait
  deriving DecidableEq, Repr

/-- What follows the Teardown subroutine (R200). -/
inductive AfterTeardown where
  /-- the first step of INITIALIZE (R181): Detecting comes next -/
  | detect
  /-- the operation completes with this result and value 0 (R194, R198, R200, R220) -/
  | complete (e : Err)
  deriving DecidableEq, Repr

/-- The running procedure and the call in it that is being served (R43). -/
inductive Stage where
  /-- no operation runs -/
  | idle
  /-- a reserved host opcode (R83) -/
  | reserved
  /-- CARD_PRESENT (R198) -/
  | cardPresent
  /-- IS_BLOCK_ADDRESSED (R199) -/
  | isBlockAddressed
  /-- the entry of TEARDOWN (R200) -/
  | teardownOp
  /-- inside the Teardown subroutine (R200) -/
  | tearingDown (k : AfterTeardown)
  /-- INITIALIZE up to chip select: Detecting, DummyClocking (R182-R184) -/
  | initStart
  /-- the Reset step, CMD0 (R185) -/
  | initReset
  /-- VoltageCheck, CMD8 (R187) -/
  | initVcheck
  /-- CrcEnable, CMD59 (R188) -/
  | initCrcen
  /-- OcrCheck, CMD58 (R189) -/
  | initOcr
  /-- OpCondWait, CMD55 and the deadline (R190) -/
  | initApp
  /-- OpCondWait, ACMD41 (R190) -/
  | initOpCond
  /-- CapacityCheck, CMD58 (R191) -/
  | initCap
  /-- BlockLenSet, CMD16 (R192) -/
  | initBlklen
  /-- Ready (R193) -/
  | initReady
  /-- READ_BLOCK: preconditions (R227) -/
  | readBlock
  /-- READ_BLOCK: CMD17 -/
  | readBlockCmd
  /-- READ_BLOCK: the data frame -/
  | readBlockData
  /-- WRITE_BLOCK: preconditions (R229) -/
  | writeBlock
  /-- WRITE_BLOCK: CMD24 -/
  | writeBlockCmd
  /-- WRITE_BLOCK: the written frame up to the data response -/
  | writeBlockData
  /-- WRITE_BLOCK: the busy wait, after data-response result `e` (R225) -/
  | writeBlockBusy (e : Err)
  /-- READ_BLOCKS: preconditions (R230) -/
  | readBlocks
  /-- READ_BLOCKS: CMD18 -/
  | readBlocksCmd
  /-- READ_BLOCKS: the data frames -/
  | readBlocksData
  /-- READ_BLOCKS: CMD12 of the termination (R231) -/
  | readBlocksStop
  /-- READ_BLOCKS: the busy wait of the termination, after stop-status result `e2` (R230) -/
  | readBlocksBusy (e2 : Err)
  /-- WRITE_BLOCKS: preconditions (R232) -/
  | writeBlocks
  /-- the pre-erase hint, CMD55 (R233) -/
  | preErasePrefix
  /-- the pre-erase hint, ACMD23 (R233) -/
  | preEraseCount
  /-- WRITE_BLOCKS: CMD25 -/
  | writeBlocksCmd
  /-- WRITE_BLOCKS: the written frames up to each data response -/
  | writeBlocksData
  /-- WRITE_BLOCKS: the busy wait of a block, after data-response result `e` (R225) -/
  | writeBlocksBusy (e : Err)
  /-- WRITE_BLOCKS: the termination: stop token, one byte, busy wait (R234) -/
  | writeBlocksStop
  /-- SECTOR_COUNT: preconditions and cache (R268) -/
  | sectorCount
  /-- SECTOR_COUNT: CMD9 (R269) -/
  | sectorCountCmd
  /-- SECTOR_COUNT: the CSD frame (R269) -/
  | sectorCountData
  /-- the CRC7 operation (R138) -/
  | crc7
  /-- the CRC16 operation (R139) -/
  | crc16
  /-- CSD_PARSE with the bytes read so far (R267) -/
  | csdParse (c : List Byte)
  deriving DecidableEq, Repr

/-- A program point: one primitive of R13, or the completion (R282), with the local variables that only it needs. -/
inductive Point where
  /-- the operation has started; no primitive has been performed (R22) -/
  | start
  /-- `SetCS(DEASSERTED)` of Teardown (R200) -/
  | tdCs
  /-- `SetClk(SLOW)` of Teardown (R200) -/
  | tdClk
  /-- `Present()` (R124) -/
  | present
  /-- dummy byte `k` of 1 .. DUMMY_BYTES (R183) -/
  | dummy (k : Nat)
  /-- `SetCS(ASSERTED)` (R184) -/
  | csAssert
  /-- byte `k` of the packet (R150) -/
  | cmdTx (k : Nat)
  /-- the extra byte-time of the stop command (R153) -/
  | stopGap
  /-- poll `k` of 1 .. 8 (R152) -/
  | poll (k : Nat)
  /-- trailing byte `k` of 1 .. 4 of an extended response; `x` holds the earlier ones (R154) -/
  | ext (k : Nat) (x : Word)
  /-- `Now()` for the deadline of OpCondWait (R190) -/
  | opDeadline
  /-- `Now()` of OpCondWait's deadline check (R190) -/
  | opCheck
  /-- `Now()` for the deadline of the token wait (R222) -/
  | tokDeadline
  /-- an exchange of the token wait (R222) -/
  | tokWait
  /-- `Now()` of the token wait's deadline check (R222) -/
  | tokCheck
  /-- a payload byte received (R223) -/
  | dataRx
  /-- `MemWrite` of that byte (R223) -/
  | dataPut
  /-- the first CRC byte received (R223) -/
  | crcHi
  /-- the second CRC byte received, the first being `hi` (R223) -/
  | crcLo (hi : Byte)
  /-- the pad byte before a start token (R225) -/
  | pad
  /-- a token sent (R225, R234) -/
  | tokTx (t : Byte)
  /-- `MemRead` of a payload byte (R225) -/
  | dataGet
  /-- that byte sent (R225) -/
  | dataTx
  /-- the first CRC byte sent (R225) -/
  | crcTxHi
  /-- the second CRC byte sent (R225) -/
  | crcTxLo
  /-- the data response received (R225) -/
  | dresp
  /-- `Now()` for the deadline of the busy wait (R224) -/
  | busyDeadline
  /-- an exchange of the busy wait (R224) -/
  | busyWait
  /-- `Now()` of the busy wait's deadline check (R224) -/
  | busyCheck
  /-- the byte-time after the stop token (R234) -/
  | stopByte
  /-- `MemRead` of byte `a` by a pure operation (R138, R139, R267) -/
  | pureGet (a : Nat)
  /-- `SetClk(FAST)` (R193) -/
  | clkFast
  /-- the completion step with result `e` and value `v` (R282) -/
  | finish (e : Err) (v : Word)
  /-- a position no procedure has; unreachable (log entry 16) -/
  | stuck
  deriving DecidableEq, Repr

/-- SEQ, the sequencer state (R43): between two steps, `point` is the primitive performed last (`done`), and the values it
returned stand in `rx`, `mval`, `tval`, `pval`. Inside a step, and in a state that is about to send, `point` is the
primitive that is due (`done` = false). -/
structure Seq where
  stage : Stage
  point : Point
  done : Bool
  deriving DecidableEq, Repr

/-- `SEQ` = IDLE (R43). -/
def Seq.idle : Seq := ⟨.idle, .start, true⟩

/-- Everything the spec gives the block, the configuration, the host buffer, and the environment's inputs. -/
structure State where
  /-- the parameters of R7, fixed -/
  cfg : Config
  /-- `CTRL.OPCODE` (R22) -/
  opcode : BitVec 8
  /-- `SECTOR` (R23) -/
  sector : Word
  /-- `COUNT` (R24) -/
  count : Word
  /-- `LEN.LEN` (R25) -/
  len : BitVec 16
  /-- `STATUS.BUSY` (R26) -/
  busy : Bool
  /-- `RESULT.CODE` (R27), the session's last error (R37) -/
  result : Err
  /-- `VALUE` (R28) -/
  value : Word
  /-- `LAT_OP` (R31) -/
  latOp : BitVec 8
  /-- `LAT_SECTOR` (R31) -/
  latSector : Word
  /-- `LAT_COUNT` (R31) -/
  latCount : Word
  /-- `LAT_LEN` (R31) -/
  latLen : BitVec 16
  /-- `LIFECYCLE` (R32) -/
  lifecycle : Lifecycle
  /-- `BLOCK_ADDR` (R33) -/
  blockAddr : Bool
  /-- `CRC_ON` (R34) -/
  crcOn : Bool
  /-- `LEGACY` (R35) -/
  legacy : Bool
  /-- `SC_VALID` (R36) -/
  scValid : Bool
  /-- `SC_VALUE` (R36) -/
  scValue : Word
  /-- `CS`: chip select asserted (R38) -/
  cs : Bool
  /-- `CLK`: clock rate FAST (R39) -/
  clkFast : Bool
  /-- `MOSI`: the byte last driven (R48) -/
  mosi : Byte
  /-- `CSDREG` (R40) -/
  csdReg : Vector Byte 16
  /-- `CRC7R` (R41) -/
  crc7r : BitVec 7
  /-- `CRC16R` (R42) -/
  crc16r : BitVec 16
  /-- `RESP` (R46) -/
  resp : Byte
  /-- `RESPX` (R46) -/
  respx : Word
  /-- `SEQ` (R43) -/
  seq : Seq
  /-- `DEADLINE` (R45) -/
  deadline : Nat
  /-- `ATTEMPT` (R45) -/
  attempt : Nat
  /-- `BLKIDX` (R45) -/
  blkIdx : Nat
  /-- `BYTEIDX` (R45) -/
  byteIdx : Nat
  /-- `FIRST_ERR` (R45) -/
  firstErr : Err
  /-- `MB_OPEN` (R45) -/
  mbOpen : Bool
  /-- the packet being sent: local `p` of R150 -/
  pkt : BitVec 48
  /-- the byte the last `Xchg` returned (R120) -/
  rx : Byte
  /-- the byte the last `MemRead` returned (R61) -/
  mval : Byte
  /-- the value the last `Now()` returned (R123) -/
  tval : Nat
  /-- the value the last `Present()` returned (R124) -/
  pval : Bool
  /-- `HOSTBUF` (R61) -/
  hostbuf : Mem
  /-- host and environment events to come -/
  inputs : List Input
  /-- bytes the card will return, before free draws (R120) -/
  miso : List Byte
  /-- the card-detect input (R124) -/
  cd : Bool
  /-- exchanges since reset (R123) -/
  xchgs : Nat
  /-- the last value of a platform time input (R123) -/
  now : Nat
  /-- index of the next free value -/
  draws : Nat
  /-- what the last host read returned (R21) -/
  rdata : Word
  deriving DecidableEq, Repr

/-- The reset table of R50, for a configuration. The fields the table does not name are the model's own (log entries 1-8, 10). -/
def State.resetWith (c : Config) : State where
  cfg := c
  opcode := 0
  sector := 0
  count := 0
  len := 0
  busy := false
  result := .ok
  value := 0
  latOp := 0
  latSector := 0
  latCount := 0
  latLen := 0
  lifecycle := .uninit
  blockAddr := false
  crcOn := false
  legacy := false
  scValid := false
  scValue := 0
  cs := false
  clkFast := false
  mosi := 0xFF
  csdReg := Vector.replicate 16 0
  crc7r := 0
  crc16r := 0
  resp := 0
  respx := 0
  seq := Seq.idle
  deadline := 0
  attempt := 0
  blkIdx := 0
  byteIdx := 0
  firstErr := .ok
  mbOpen := false
  pkt := 0
  rx := 0
  mval := 0
  tval := 0
  pval := false
  hostbuf := []
  inputs := []
  miso := []
  cd := true
  xchgs := 0
  now := 0
  draws := 0
  rdata := 0

/-- The machine right after reset (R50), in the reference configuration (D52; log entry 1). -/
def State.reset : State := State.resetWith Config.reference

/-- Why a step stops with a fault. -/
inductive Fault where
  /-- An access to HOSTBUF at or above HOSTBUF_SIZE, which does not exist (R61). Raised by `memRead`, `memWrite` and the
  host's buffer accesses. Safe: the machine stops; no procedure forms such an address. -/
  | hostBufferRange
  /-- The sequencer stands at a position no procedure has (R43). Raised by `perform`. Safe: unreachable. -/
  | illegalPosition
  /-- The packet or token to be sent is none of R86, R93-R95. Raised by `issue`. Safe: unreachable. -/
  | illegalItem
  deriving DecidableEq, Repr

/-- Why a step is refused. -/
inductive Refusal where
  /-- An instruction without a meaning yet. Raised by an arm of `exec`; no arm does. Safe. -/
  | notModelled (mnemonic : String)
  /-- A host access narrower than 32 bits: "a model refuses them" (R30, U9). Raised by `step`. Safe. -/
  | narrowAccess
  deriving DecidableEq, Repr

/-- The outcome of a step. -/
abbrev Out := Host.Outcome State Fault Refusal

end Sys2Proof.Machine
end

