-- ==== Sys2Proof/Machine/Ops.lean ====
section
/-! DEFINITION. The named operations over HOSTBUF and the state: memory, the primitives of spec/00_scope.md R13, the completion
step (spec/60_exceptions.md R282), raising an error (R12, R283) and the Teardown subroutine (spec/43_initialization.md R200). -/

namespace Sys2Proof.Machine

/-! ### HOSTBUF -/

/-- What an unlisted byte of HOSTBUF reads as. DESIGN CHOICE (log entry 8, unsafe): the spec gives no contents. -/
def Mem.unlisted : Byte := 0

/-- Byte `a` (R61). -/
def Mem.read : Mem → Nat → Byte
  | [], _ => Mem.unlisted
  | (k, v) :: r, a => if k = a then v else Mem.read r a

/-- A cell put before a list that holds only higher addresses, unless its byte is the unlisted one. -/
def Mem.cons (a : Nat) (b : Byte) (r : Mem) : Mem :=
  if b = Mem.unlisted then r else (a, b) :: r

/-- Byte `a` set to `b`, in canonical form (R61). -/
def Mem.write : Mem → Nat → Byte → Mem
  | [], a, b => Mem.cons a b []
  | (k, v) :: r, a, b =>
    if a < k then Mem.cons a b ((k, v) :: r)
    else if a = k then Mem.cons a b r
    else (k, v) :: Mem.write r a b

/-- Canonical from address `lo` on: addresses strictly rising, no byte equal to the unlisted one. -/
def Mem.wfFrom : Nat → Mem → Bool
  | _, [] => true
  | lo, (k, v) :: r => decide (lo ≤ k) && decide (v ≠ Mem.unlisted) && Mem.wfFrom (k + 1) r

/-- The canonical form. -/
def Mem.wf (m : Mem) : Bool := Mem.wfFrom 0 m

/-- Every listed address is below `n`. -/
def Mem.below (n : Nat) : Mem → Bool
  | [] => true
  | (k, _) :: r => decide (k < n) && Mem.below n r

/-! ### Moving the sequencer -/

/-- The primitive of point `p` is due, in the same stage. -/
def State.due (p : Point) (s : State) : State :=
  { s with seq := ⟨s.seq.stage, p, false⟩ }

/-- The primitive of point `p` is due, in stage `st`. -/
def State.enter (st : Stage) (p : Point) (s : State) : State :=
  { s with seq := ⟨st, p, false⟩ }

/-- The due primitive has been performed. -/
def State.performed (s : State) : State :=
  { s with seq := ⟨s.seq.stage, s.seq.point, true⟩ }

/-! ### The primitives (R13) -/

/-- The byte the card returns: the next scripted one, else a free draw (R120). -/
def State.nextMiso (s : State) : Byte :=
  match s.miso with
  | b :: _ => b
  | [] => Config.freeMiso s.draws

/-- The draw index after an exchange: a free draw uses one. -/
def State.drawsAfterXchg (s : State) : Nat :=
  match s.miso with
  | _ :: _ => s.draws
  | [] => s.draws + 1

/-- `Xchg(o)`: `o` is driven on MOSI while the card's byte is sampled (R120). -/
def xchg (o : Byte) (s : State) : State :=
  { s with
    mosi := o
    rx := s.nextMiso
    miso := s.miso.tail
    draws := s.drawsAfterXchg
    xchgs := s.xchgs + 1
    seq := ⟨s.seq.stage, s.seq.point, true⟩ }

/-- The time input's present value: exchanges since reset, or a platform time that has advanced by a free amount (R123). -/
def State.timeNow (s : State) : Nat :=
  match s.cfg.timeBase with
  | .perExchange => s.xchgs
  | .platform => s.now + Config.freeTick s.draws

/-- `Now()`: the time input sampled (R123). -/
def sampleNow (s : State) : State :=
  match s.cfg.timeBase with
  | .perExchange => { s with tval := s.timeNow, seq := ⟨s.seq.stage, s.seq.point, true⟩ }
  | .platform =>
    { s with tval := s.timeNow, now := s.timeNow, draws := s.draws + 1, seq := ⟨s.seq.stage, s.seq.point, true⟩ }

/-- `Present()`: the card-detect input sampled (R124). -/
def samplePresent (s : State) : State :=
  { s with pval := s.cd, seq := ⟨s.seq.stage, s.seq.point, true⟩ }

/-- `SetCS(v)` (R121). -/
def setCs (asserted : Bool) (s : State) : State :=
  { s with cs := asserted, seq := ⟨s.seq.stage, s.seq.point, true⟩ }

/-- `SetClk(r)` (R122). -/
def setClk (fast : Bool) (s : State) : State :=
  { s with clkFast := fast, seq := ⟨s.seq.stage, s.seq.point, true⟩ }

/-- `MemRead(a, 1)` (R61); an address outside HOSTBUF does not exist. -/
def memRead (a : Nat) (s : State) : Out :=
  if a < s.cfg.hostbufSize then
    .next { s with mval := s.hostbuf.read a, seq := ⟨s.seq.stage, s.seq.point, true⟩ }
  else .fault .hostBufferRange

/-- `MemWrite(a, 1, b)` (R61); an address outside HOSTBUF does not exist. -/
def memWrite (a : Nat) (b : Byte) (s : State) : Out :=
  if a < s.cfg.hostbufSize then
    .next { s with hostbuf := s.hostbuf.write a b, seq := ⟨s.seq.stage, s.seq.point, true⟩ }
  else .fault .hostBufferRange

/-! ### Completion, errors, teardown -/

/-- The completion step `Complete(E, v)` of R282: the block's only "trap". The working registers are left unspecified
(R45, U15): they take free values (log entry 9). `MB_OPEN` is 0 whenever BUSY is 0 by R328 and is not touched. -/
def complete (e : Err) (v : Word) (s : State) : State :=
  { s with
    result := e
    value := if e = .ok then v else 0
    busy := false
    seq := Seq.idle
    deadline := Config.freeNat s.draws
    attempt := Config.freeNat (s.draws + 1)
    blkIdx := Config.freeNat (s.draws + 2)
    byteIdx := Config.freeNat (s.draws + 3)
    firstErr := Config.freeErr s.draws
    draws := s.draws + 4 }

/-- The procedure returns `v`: the completion with `OK` is due (R282). -/
def returns (v : Word) (s : State) : State := s.due (.finish .ok v)

/-- `raise e` in an operation without an `on error` or `finally` part: the completion with `e` is due (R12, R282). -/
def raises (e : Err) (s : State) : State := s.due (.finish e 0)

/-- The Teardown subroutine begins: its two output changes, then its register writes (R200). -/
def beginTeardown (k : AfterTeardown) (s : State) : State :=
  s.enter (.tearingDown k) .tdCs

/-- `raise e` in INITIALIZE: its `on error` part is Teardown, then the operation completes with `e` (R12, R194). -/
def raisesInit (e : Err) (s : State) : State := beginTeardown (.complete e) s

/-- Teardown's register writes (R200). -/
def clearSession (s : State) : State :=
  { s with
    lifecycle := .uninit
    blockAddr := false
    crcOn := false
    legacy := false
    scValid := false
    scValue := 0 }

/-- After Teardown's last output change: the registers, then what called it goes on (R200). -/
def afterTeardown (k : AfterTeardown) (s : State) : State :=
  match k with
  | .detect => (clearSession s).enter .initStart .present
  | .complete e => (clearSession s).due (.finish e 0)

/-- No position of any procedure: unreachable (log entry 16). -/
def noSuchPosition (s : State) : State := s.due .stuck

/-- One outcome after another. -/
def andThen (o : Out) (f : State → Out) : Out :=
  match o with
  | .next s => f s
  | .fault r => .fault r
  | .refused r => .refused r

end Sys2Proof.Machine
end

