-- ==== Sys2Proof/Machine/Crc.lean ====
section
/-! DEFINITION. The two CRC generators of spec/41_crc.md: bit-serial shift registers, initial value 0, most significant bit
first, no reflection and no final exclusive-or. -/

namespace Sys2Proof

/-- The bits of a byte in the order they are absorbed: most significant first (R130, R133, R67). -/
def bitsMsb (b : Byte) : List Bool :=
  [b.getLsbD 7, b.getLsbD 6, b.getLsbD 5, b.getLsbD 4, b.getLsbD 3, b.getLsbD 2, b.getLsbD 1, b.getLsbD 0]

/-- `Crc7Step` of R130: polynomial x^7 + x^3 + 1. -/
def crc7Step (c : BitVec 7) (d : Bool) : BitVec 7 :=
  if (d ^^ c.getLsbD 6) = true then (c <<< 1) ^^^ 0x09#7 else c <<< 1

/-- One byte absorbed by the CRC7 generator. -/
def crc7Byte (c : BitVec 7) (b : Byte) : BitVec 7 :=
  (bitsMsb b).foldl crc7Step c

/-- `Crc7(s)` of R131. -/
def crc7 (s : List Byte) : BitVec 7 :=
  s.foldl crc7Byte 0

/-- `Crc16Step` of R133: polynomial 0x1021. -/
def crc16Step (c : BitVec 16) (d : Bool) : BitVec 16 :=
  if (d ^^ c.getLsbD 15) = true then (c <<< 1) ^^^ 0x1021#16 else c <<< 1

/-- One byte absorbed by the CRC16 generator. -/
def crc16Byte (c : BitVec 16) (b : Byte) : BitVec 16 :=
  (bitsMsb b).foldl crc16Step c

/-- `Crc16(s)` of R134. -/
def crc16 (s : List Byte) : BitVec 16 :=
  s.foldl crc16Byte 0

/-- `BE16(v)` of R10: the high byte first (R65). -/
def be16 (v : BitVec 16) : List Byte :=
  [v.extractLsb' 8 8, v.extractLsb' 0 8]

/-- `BE32(v)` of R10: the most significant byte first (R64). -/
def be32 (v : Word) : List Byte :=
  [v.extractLsb' 24 8, v.extractLsb' 16 8, v.extractLsb' 8 8, v.extractLsb' 0 8]

end Sys2Proof
end

