-- ==== Sys2Proof/Machine/Packet.lean ====
section
/-! DEFINITION. The 48-bit command packet of spec/30_encoding.md R84 and the framer of spec/42_command_engine.md R150. -/

namespace Sys2Proof

/-- R84: start bit 0, direction bit 1, index, argument, CRC7, end bit 1. -/
def packet (idx : BitVec 6) (arg : Word) (crc : BitVec 7) : BitVec 48 :=
  0b01#2 ++ idx ++ arg ++ crc ++ 1#1

/-- Byte `k` of a packet, byte 0 first on the wire (R84); there are six. -/
def packetByte (w : BitVec 48) (k : Nat) : Byte :=
  w.extractLsb' (40 - 8 * k) 8

/-- The first five bytes of a packet: what the CRC7 covers (R132). -/
def packetHead (idx : BitVec 6) (arg : Word) : List Byte :=
  (0b01#2 ++ idx) :: be32 arg

/-- `Crc7(bytes 0..4)` of a packet (R85, R132). -/
def packetCrc (idx : BitVec 6) (arg : Word) : BitVec 7 :=
  crc7 (packetHead idx arg)

/-- Whether the trailing byte is computed: CRC_ENABLE, or one of the two commands the card always checks (R85). -/
def crcComputed (crcEnable : Bool) (idx : BitVec 6) : Bool :=
  crcEnable || idx == 0 || idx == 8

/-- `Frame(idx, arg)` of R150; the wildcard trailer 0xFF is the CRC7 field 1111111 with the end bit (R85). -/
def frame (crcEnable : Bool) (idx : BitVec 6) (arg : Word) : BitVec 48 :=
  packet idx arg (if crcComputed crcEnable idx then packetCrc idx arg else 0x7F)

end Sys2Proof
end

