-- ==== Sys2Proof/Machine/Params.lean ====
section
/-! DEFINITION. The constants of spec/00_scope.md R7 whose value the source or the spec fixes. -/

namespace Sys2Proof.Machine

/-- BLOCK_SIZE: payload bytes of a sector's frame. -/
def blockSize : Nat := 512

/-- CSD_SIZE: payload bytes of the CSD's frame. -/
def csdSize : Nat := 16

/-- R1_POLL: byte-times polled for a status byte. -/
def r1Poll : Nat := 8

/-- DUMMY_BYTES: bytes of 0xFF before the first command. -/
def dummyBytes : Nat := 10

/-- OCR_VOLT_MASK: OCR bit 20. -/
def ocrVoltMask : Word := 0x00100000

/-- The fill byte (R100). -/
def fillByte : Byte := 0xFF

/-- The token before a block of CMD24 and before every received frame (R93). -/
def tokenSingle : Byte := 0xFE

/-- The token before every block of CMD25 (R94). -/
def tokenMulti : Byte := 0xFC

/-- The token that ends a multi-block write (R95). -/
def tokenStop : Byte := 0xFD

end Sys2Proof.Machine
end

