-- ==== Sys2Proof/Machine/Operands.lean ====
section
/-! DEFINITION. Operands: the sector-to-argument translation (spec/20_memory.md R62), the arguments of the commands
(spec/30_encoding.md R87), the preconditions of a transfer (spec/44_block_transfer.md R220), the host-buffer address of a payload
byte (R221) and the framer with its CRC7 register (R150). -/

namespace Sys2Proof.Machine

/-- `Addr(s)` (R62): the sector, or sector x 512 modulo 2^32. -/
def addrOf (blockAddr : Bool) (sector : Word) : Word :=
  if blockAddr then sector else sector <<< 9

/-- The argument of CMD17, CMD18, CMD24 and CMD25 (R87). -/
def State.sectorArg (s : State) : Word := addrOf s.blockAddr s.latSector

/-- The argument of ACMD23: the low 23 bits of the count (R87). -/
def State.eraseArg (s : State) : Word := s.latCount &&& 0x007FFFFF

/-- The argument of ACMD41: the capacity-request bit 30 only for a card that is not legacy (R87, R190). -/
def State.opCondArg (s : State) : Word := if s.legacy then 0 else 0x40000000

/-- The sector count of the transfer in `stage`: one block for the single-block operations (R227, R229). -/
def State.transferCount (s : State) : Nat :=
  match s.seq.stage with
  | .readBlocks => s.latCount.toNat
  | .writeBlocks => s.latCount.toNat
  | _ => 1

/-- `Pre(s, n)` after the session checks (R220): count, then sector range, then buffer size. -/
def State.preCheck (s : State) (n : Nat) : Err :=
  if n = 0 then .parameterOutOfRange
  else if s.blockAddr = false ∧ s.latSector.toNat > 0x007FFFFF then .parameterOutOfRange
  else if blockSize * n > s.cfg.hostbufSize then .parameterOutOfRange
  else .ok

/-- The block the frame belongs to: block 0 of a single-block operation, else `BLKIDX` (R221). -/
def State.block (s : State) : Nat :=
  match s.seq.stage with
  | .readBlocksData => s.blkIdx
  | .writeBlocksData => s.blkIdx
  | _ => 0

/-- The HOSTBUF address of payload byte `BYTEIDX` (R221). -/
def State.payloadAddr (s : State) : Nat := blockSize * s.block + s.byteIdx

/-- The payload length of the frame being received: the CSD's 16 bytes or a sector's 512 (R223). -/
def State.frameSize (s : State) : Nat :=
  match s.seq.stage with
  | .sectorCountData => csdSize
  | _ => blockSize

/-- The CRC field of a written frame: the computed CRC16, or the wildcard 0xFFFF (R225). -/
def State.txCrc (s : State) : BitVec 16 := if s.crcOn then s.crc16r else 0xFFFF

/-- A packet is framed (R150) and its first byte is due, in stage `st`. The CRC7 register holds the computed CRC. -/
def sendCommand (st : Stage) (idx : BitVec 6) (arg : Word) (s : State) : State :=
  { s with
    pkt := frame s.cfg.crcEnable idx arg
    crc7r := if crcComputed s.cfg.crcEnable idx then packetCrc idx arg else s.crc7r
    seq := ⟨st, .cmdTx 0, false⟩ }

/-- The CRC16 register starts a frame at 0 when the frame's CRC is computed (R42, R133, R223, R225). -/
def startFrame (s : State) : State :=
  { s with byteIdx := 0, crc16r := if s.crcOn then 0 else s.crc16r }

/-- The CRC16 register absorbs a payload byte when the frame's CRC is computed (R136). -/
def absorb (b : Byte) (s : State) : State :=
  { s with crc16r := if s.crcOn then crc16Byte s.crc16r b else s.crc16r }

end Sys2Proof.Machine
end

