-- ==== Sys2Proof/Machine/Commands.lean ====
section
/-! DEFINITION. The command packets the block sends (spec/42_command_engine.md R159-R172). Executing one is loading its packet and
exchanging its first byte; the remaining five bytes and the poll follow one exchange a step (R150-R154, Sequencer.lean), and the
stage that sent it says what is done with the response. -/

namespace Sys2Proof.Machine

/-- The packet's first byte is exchanged, in the present stage (R150). -/
def sendPacket (w : BitVec 48) (s : State) : State :=
  xchg (packetByte w 0) { s with pkt := w, seq := ⟨s.seq.stage, .cmdTx 0, false⟩ }

/-- CMD0, GO_IDLE_STATE (R159). -/
def execCmd0 (s : State) : Out := .next (sendPacket (packet 0 0 0x4A) s)

/-- CMD8, SEND_IF_COND (R160). -/
def execCmd8 (s : State) : Out := .next (sendPacket (packet 8 0x1AA 0x43) s)

/-- CMD9, SEND_CSD (R161). -/
def execCmd9 (crc : BitVec 7) (s : State) : Out := .next (sendPacket (packet 9 0 crc) s)

/-- CMD12, STOP_TRANSMISSION (R162). -/
def execCmd12 (crc : BitVec 7) (s : State) : Out := .next (sendPacket (packet 12 0 crc) s)

/-- CMD16, SET_BLOCKLEN (R163). -/
def execCmd16 (crc : BitVec 7) (s : State) : Out := .next (sendPacket (packet 16 0x200 crc) s)

/-- CMD17, READ_SINGLE_BLOCK (R164). -/
def execCmd17 (arg : Word) (crc : BitVec 7) (s : State) : Out := .next (sendPacket (packet 17 arg crc) s)

/-- CMD18, READ_MULTIPLE_BLOCK (R165). -/
def execCmd18 (arg : Word) (crc : BitVec 7) (s : State) : Out := .next (sendPacket (packet 18 arg crc) s)

/-- CMD24, WRITE_BLOCK (R166). -/
def execCmd24 (arg : Word) (crc : BitVec 7) (s : State) : Out := .next (sendPacket (packet 24 arg crc) s)

/-- CMD25, WRITE_MULTIPLE_BLOCK (R167). -/
def execCmd25 (arg : Word) (crc : BitVec 7) (s : State) : Out := .next (sendPacket (packet 25 arg crc) s)

/-- CMD55, APP_CMD (R168). -/
def execCmd55 (crc : BitVec 7) (s : State) : Out := .next (sendPacket (packet 55 0 crc) s)

/-- CMD58, READ_OCR (R169). -/
def execCmd58 (crc : BitVec 7) (s : State) : Out := .next (sendPacket (packet 58 0 crc) s)

/-- CMD59, CRC_ON_OFF (R170). -/
def execCmd59 (s : State) : Out := .next (sendPacket (packet 59 1 0x41) s)

/-- ACMD23, SET_WR_BLK_ERASE_COUNT (R171). -/
def execAcmd23 (arg : Word) (crc : BitVec 7) (s : State) : Out := .next (sendPacket (packet 23 arg crc) s)

/-- ACMD41, SD_SEND_OP_COND with the capacity-request bit (R172). -/
def execAcmd41 (crc : BitVec 7) (s : State) : Out := .next (sendPacket (packet 41 0x40000000 crc) s)

/-- ACMD41 for a legacy card (R172). -/
def execAcmd41Legacy (crc : BitVec 7) (s : State) : Out := .next (sendPacket (packet 41 0 crc) s)

end Sys2Proof.Machine
end

