-- ==== Sys2Proof/Machine/HostPort.lean ====
section
/-! DEFINITION. The register window and the other host-side events: spec/10_state.md R21-R31, the start of an operation (R22,
R31), the block's reset (spec/70_reset_and_hazards.md R320), host accesses to HOSTBUF (spec/20_memory.md R61). -/

namespace Sys2Proof.Machine

/-- The code of `STATUS.LIFECYCLE` (R32). -/
def Lifecycle.code : Lifecycle → BitVec 2
  | .uninit => 0
  | .idle => 1
  | .ready => 2

/-- `STATUS` (R26): bits 9 down to 0 are SC_VALID, CLK_FAST, CS_ASSERTED, LEGACY, CRC_ON, BLOCK_ADDR, LIFECYCLE, PRESENT, BUSY;
the rest read 0. -/
def State.statusWord (s : State) : Word :=
  0#22 ++ BitVec.ofBool s.scValid ++ BitVec.ofBool s.clkFast ++ BitVec.ofBool s.cs ++ BitVec.ofBool s.legacy ++
    BitVec.ofBool s.crcOn ++ BitVec.ofBool s.blockAddr ++ s.lifecycle.code ++ BitVec.ofBool s.cd ++ BitVec.ofBool s.busy

/-- `SECTORS` (R29): 0 while `SC_VALID` = 0. -/
def State.sectorsWord (s : State) : Word := if s.scValid then s.scValue else 0

/-- What a host read of a byte offset returns (R21-R30): 0 at an offset with no register. -/
def hostReadWord (s : State) (off : Nat) : Word :=
  if off = 0x00 then s.opcode.setWidth 32
  else if off = 0x04 then s.sector
  else if off = 0x08 then s.count
  else if off = 0x0C then s.len.setWidth 32
  else if off = 0x10 then s.statusWord
  else if off = 0x14 then s.result.code.setWidth 32
  else if off = 0x18 then s.value
  else if off = 0x1C then s.sectorsWord
  else 0

/-- A host read: no side effect on the block (R70); the word stands in `rdata`. -/
def hostRead (off : Nat) (s : State) : State := { s with rdata := hostReadWord s off }

/-- A host write of an offset other than `CTRL` (R23-R25, R30): read-only registers and unmapped offsets ignore it. -/
def hostWriteReg (off : Nat) (v : Word) (s : State) : State :=
  if off = 0x04 then { s with sector := v }
  else if off = 0x08 then { s with count := v }
  else if off = 0x0C then { s with len := v.setWidth 16 }
  else s

/-- A `CTRL` write with opcode `op` (R22, R31): ignored while busy; else the opcode is stored, the request is latched, `BUSY`
rises and the sequencer stands at the operation's entry. -/
def start (op : BitVec 8) (st : Stage) (s : State) : State :=
  if s.busy then s
  else
    { s with
      opcode := op
      latOp := op
      latSector := s.sector
      latCount := s.count
      latLen := s.len
      busy := true
      seq := ⟨st, .start, true⟩ }

/-- A `CTRL` write with a reserved opcode (R83): an operation starts that will complete in its first step. -/
def startReserved (w : Word) (s : State) : State := start (w.extractLsb' 0 8) .reserved s

/-- The block's reset (R320, R50): every piece of the block's state takes its reset value at once. HOSTBUF, the configuration
and the environment (inputs, card bytes, card detect, platform time, draw index, host read data) are not the block's; the
exchange count restarts, as `Now()` counts since reset (R123; log entry 19). -/
def hwReset (s : State) : State :=
  { State.resetWith s.cfg with
    hostbuf := s.hostbuf
    inputs := s.inputs
    miso := s.miso
    cd := s.cd
    now := s.now
    draws := s.draws
    rdata := s.rdata }

/-- A host write of one byte of HOSTBUF (R61). While BUSY = 1 the host must not write the part the running operation uses, and if
it does, R326 and U17 leave the value open (R77): DESIGN CHOICE (log entry 22), the byte stored is the host's in every state. -/
def hostBufWrite (a : Nat) (b : Byte) (s : State) : Out :=
  if a < s.cfg.hostbufSize then .next { s with hostbuf := s.hostbuf.write a b } else .fault .hostBufferRange

/-- A host read of one byte of HOSTBUF (R61). R77 leaves open what it returns while BUSY = 1 from the part the running operation
uses: DESIGN CHOICE (log entry 22), the byte that stands there. -/
def hostBufRead (a : Nat) (s : State) : Out :=
  if a < s.cfg.hostbufSize then .next { s with rdata := (s.hostbuf.read a).setWidth 32 } else .fault .hostBufferRange

/-- The card-detect input takes a level (R124). -/
def setCardDetect (p : Bool) (s : State) : State := { s with cd := p }

end Sys2Proof.Machine
end

