-- ==== Sys2Proof/Machine/HostOps.lean ====
section
/-! DEFINITION. The host operations (spec/30_encoding.md R82). Executing one is the `CTRL` write that starts it (spec/10_state.md
R22, R31): its procedure then runs one primitive per step from the entry of its stage (Sequencer.lean: `entry`). -/

namespace Sys2Proof.Machine

/-- CARD_PRESENT (R198). -/
def execCardPresent (s : State) : Out := .next (start 0x01 .cardPresent s)

/-- INITIALIZE (R180, R196). -/
def execInitCard (s : State) : Out := .next (start 0x02 .initStart s)

/-- IS_BLOCK_ADDRESSED (R199). -/
def execIsBlockAddressed (s : State) : Out := .next (start 0x03 .isBlockAddressed s)

/-- READ_BLOCK (R227). -/
def execReadBlock (s : State) : Out := .next (start 0x04 .readBlock s)

/-- WRITE_BLOCK (R229). -/
def execWriteBlock (s : State) : Out := .next (start 0x05 .writeBlock s)

/-- READ_BLOCKS (R230). -/
def execReadBlocks (s : State) : Out := .next (start 0x06 .readBlocks s)

/-- WRITE_BLOCKS (R232). -/
def execWriteBlocks (s : State) : Out := .next (start 0x07 .writeBlocks s)

/-- SECTOR_COUNT (R268). -/
def execSectorCount (s : State) : Out := .next (start 0x08 .sectorCount s)

/-- TEARDOWN (R200). -/
def execTeardown (s : State) : Out := .next (start 0x09 .teardownOp s)

/-- CRC7 (R138). -/
def execCrc7 (s : State) : Out := .next (start 0x0A .crc7 s)

/-- CRC16 (R139). -/
def execCrc16 (s : State) : Out := .next (start 0x0B .crc16 s)

/-- CSD_PARSE (R267). -/
def execCsdParse (s : State) : Out := .next (start 0x0C (.csdParse []) s)

end Sys2Proof.Machine
end

