-- ==== Sys2Proof/Machine/Flags.lean ====
section
/-! DEFINITION. What the bits of a received byte mean: the status-byte checks of spec/42_command_engine.md R155-R157, the
VoltageCheck decision (spec/43_initialization.md R187), the data response (R226) and the read-error token (R222). The block has
no arithmetic condition codes (R47). -/

namespace Sys2Proof.Machine

/-- `MapErrBits(r)` (R157): first match wins; command CRC before parameter or address before the rest. -/
def mapErrBits (r : Byte) : Err :=
  if r.getLsbD 3 = true then .commandCrcError
  else if r.getLsbD 6 = true ∨ r.getLsbD 5 = true then .parameterOutOfRange
  else .commandRejected

/-- `InitCheck(r)` (R155). -/
def initCheck (r : Byte) : Err :=
  if r.getLsbD 7 = true then .timeout
  else if r &&& 0x7E ≠ 0 then mapErrBits r
  else .ok

/-- `XferCheck(r)` (R156). -/
def xferCheck (r : Byte) : Err :=
  if r.getLsbD 7 = true then .timeout
  else if r = 0 then .ok
  else mapErrBits r

/-- A command was accepted: no error bit and bit 7 clear (R188, R233). -/
def accepted (r : Byte) : Bool := r &&& 0xFE == 0

/-- VoltageCheck (R187): an error to raise, or the value of LEGACY. -/
def voltageCheck (r : Byte) (x : Word) : Except Err Bool :=
  if r.getLsbD 7 = true then .error .timeout
  else if r.getLsbD 2 = true then .ok true
  else if r &&& 0x7A ≠ 0 then .error (mapErrBits r)
  else if x &&& 0xFFF ≠ 0x1AA then .ok true
  else .ok false

/-- `DataResp(t)` (R226), over the whole byte: bits [7:5] are ignored (R97). -/
def dataResp (b : Byte) : Err :=
  if b &&& 0x1F = 0x05 then .ok
  else if b &&& 0x1F = 0x0B then .dataCrcError
  else if b &&& 0x1F = 0x0D then .writeRejected
  else .unexpectedDataToken

/-- The result of a read-error token (R222): the out-of-range bit 3 before the others (R287). -/
def readErrorToken (e : BitVec 4) : Err :=
  if e.getLsbD 3 = true then .parameterOutOfRange else .cardInternalError

/-- The errors that let READ_BLOCK try again (R228). -/
def retryable : Err → Bool
  | .timeout => true
  | .dataCrcError => true
  | .commandRejected => true
  | .commandCrcError => true
  | .ok => false
  | .noCard => false
  | .unexpectedDataToken => false
  | .writeRejected => false
  | .cardInternalError => false
  | .parameterOutOfRange => false

end Sys2Proof.Machine
end

