-- ==== Sys2Proof/Machine/InitSeq.lean ====
section
/-! DEFINITION. The card initialization state machine (spec/43_initialization.md R181-R196): what the procedure does between two
primitives, one definition per step of the machine. -/

namespace Sys2Proof.Machine

/-- `require e` in INITIALIZE (R158): go on with `k`, or raise `e` (R194). -/
def requireInit (e : Err) (k : State → State) (s : State) : State :=
  if e = .ok then k s else raisesInit e s

/-- After Detecting's `Present()` (R182): `NO_CARD`, or the first dummy byte (R183). -/
def afterDetect (s : State) : State :=
  if s.pval then s.due (.dummy 1) else raisesInit .noCard s

/-- After dummy byte `k` (R183): the next one, or chip select (R184). -/
def afterDummy (k : Nat) (s : State) : State :=
  if k < dummyBytes then s.due (.dummy (k + 1)) else s.due .csAssert

/-- The Reset step begins: attempt 1 (R185). -/
def beginReset (s : State) : State :=
  sendCommand .initReset 0 0 { s with attempt := 1 }

/-- After CMD0 (R185, R186): only 0x01 is accepted; `LIFECYCLE` becomes IDLE and CMD8 follows (R187). -/
def afterReset (s : State) : State :=
  if s.resp = 0x01 then sendCommand .initVcheck 8 0x1AA { s with lifecycle := .idle }
  else if s.attempt < s.cfg.goIdleAttempts then sendCommand .initReset 0 0 { s with attempt := s.attempt + 1 }
  else raisesInit .timeout s

/-- CrcEnable (R188): CMD59, or the step is skipped and OcrCheck follows. -/
def beginCrcEnable (s : State) : State :=
  if s.cfg.crcEnable then sendCommand .initCrcen 59 1 s else sendCommand .initOcr 58 0 { s with crcOn := false }

/-- After CMD8 (R187). -/
def afterVcheck (s : State) : State :=
  match voltageCheck s.resp s.respx with
  | .error e => raisesInit e s
  | .ok l => beginCrcEnable { s with legacy := l }

/-- After CMD59 (R188): never an error; OcrCheck follows (R189). -/
def afterCrcen (s : State) : State :=
  sendCommand .initOcr 58 0 { s with crcOn := accepted s.resp }

/-- After OcrCheck's CMD58 (R189): the voltage bit, then OpCondWait's deadline (R190). -/
def afterOcr (s : State) : State :=
  requireInit (initCheck s.resp)
    (fun s => if s.respx &&& ocrVoltMask = 0 then raisesInit .commandRejected s else s.enter .initApp .opDeadline) s

/-- After the `Now()` that starts OpCondWait (R190): the deadline, then CMD55. -/
def afterOpDeadline (s : State) : State :=
  sendCommand .initApp 55 0 { s with deadline := s.tval + s.cfg.tOpcond }

/-- After OpCondWait's CMD55 (R190): ACMD41. -/
def afterApp (s : State) : State :=
  requireInit (initCheck s.resp) (fun s => sendCommand .initOpCond 41 s.opCondArg s) s

/-- After ACMD41 (R190): 0x00 ends the wait and CapacityCheck follows (R191); else the deadline is checked. -/
def afterOpCond (s : State) : State :=
  requireInit (initCheck s.resp)
    (fun s => if s.resp = 0 then sendCommand .initCap 58 0 s else s.due .opCheck) s

/-- After OpCondWait's deadline check (R190). -/
def afterOpCheck (s : State) : State :=
  if s.tval ≥ s.deadline then raisesInit .timeout s else sendCommand .initApp 55 0 s

/-- BlockLenSet for a byte-addressed card, else Ready (R192, R193). -/
def beginBlkLen (s : State) : State :=
  if s.blockAddr then s.enter .initReady .clkFast else sendCommand .initBlklen 16 0x200 s

/-- After CapacityCheck's CMD58 (R191): bit 30 of the OCR is the addressing class. -/
def afterCap (s : State) : State :=
  requireInit (initCheck s.resp) (fun s => beginBlkLen { s with blockAddr := s.respx.getLsbD 30 }) s

/-- After CMD16 (R192): Ready. -/
def afterBlkLen (s : State) : State :=
  requireInit (initCheck s.resp) (fun s => s.enter .initReady .clkFast) s

/-- After `SetClk(FAST)` (R193): the session is READY and the operation returns 0. -/
def afterReady (s : State) : State :=
  returns 0 { s with lifecycle := .ready }

end Sys2Proof.Machine
end

