-- ==== Sys2Proof/Machine/Csd.lean ====
section
/-! DEFINITION. The CSD parser of spec/45_csd.md: pure arithmetic on unbounded numbers over a 16-byte image, byte 0 first. -/

namespace Sys2Proof.Machine

/-- Byte `i` of an image as a number (R66). -/
def csdByte (c : List Byte) (i : Nat) : Nat := (c.getD i 0).toNat

/-- CSD bit `n` (R66): bit (n mod 8) of byte (15 - n div 8). -/
def csdBit (c : List Byte) (n : Nat) : Bool := (c.getD (15 - n / 8) 0).getLsbD (n % 8)

/-- The version field CSD_STRUCTURE (R261). -/
def csdVersion (c : List Byte) : Nat := csdByte c 0 >>> 6

/-- C_SIZE of a version-2 CSD: 22 bits (R262). -/
def csdSizeV2 (c : List Byte) : Nat :=
  ((csdByte c 7 &&& 0x3F) <<< 16) ||| (csdByte c 8 <<< 8) ||| csdByte c 9

/-- C_SIZE of a version-1 CSD: 12 bits (R264). -/
def csdSizeV1 (c : List Byte) : Nat :=
  ((csdByte c 6 &&& 0x03) <<< 10) ||| (csdByte c 7 <<< 2) ||| (csdByte c 8 >>> 6)

/-- C_SIZE_MULT of a version-1 CSD: 3 bits (R264). -/
def csdMult (c : List Byte) : Nat :=
  ((csdByte c 9 &&& 0x03) <<< 1) ||| (csdByte c 10 >>> 7)

/-- READ_BL_LEN of a version-1 CSD: 4 bits (R264). -/
def csdBlLen (c : List Byte) : Nat := csdByte c 5 &&& 0x0F

/-- `CsdParse(c)` of R260: the sector count, or `PARAMETER_OUT_OF_RANGE` with 0. A shift below 0 (R265) is the case
mult + bl < 7. -/
def csdParse (c : List Byte) : Err × Word :=
  if csdVersion c = 1 then
    if (csdSizeV2 c + 1) * 1024 ≥ 2 ^ 32 then (.parameterOutOfRange, 0)
    else (.ok, BitVec.ofNat 32 ((csdSizeV2 c + 1) * 1024))
  else if csdVersion c = 0 then
    if csdMult c + csdBlLen c < 7 then (.parameterOutOfRange, 0)
    else (.ok, BitVec.ofNat 32 ((csdSizeV1 c + 1) <<< (csdMult c + csdBlLen c - 7)))
  else (.parameterOutOfRange, 0)

end Sys2Proof.Machine
end

