-- ==== Sys2Proof/Machine/TransferSeq.lean ====
section
/-! DEFINITION. The multi-block transfer sequencer and SECTOR_COUNT (spec/44_block_transfer.md R227-R236, spec/45_csd.md R268,
R269): what the procedures do between two primitives. -/

namespace Sys2Proof.Machine

/-! ### READ_BLOCK -/

/-- The first attempt (R227). -/
def beginReadBlock (s : State) : State :=
  sendCommand .readBlockCmd 17 s.sectorArg { s with attempt := 1 }

/-- An attempt failed with `e`: another attempt, or the operation raises it (R227, R228). -/
def retryOrRaise (e : Err) (s : State) : State :=
  if retryable e = true ∧ s.attempt < s.cfg.readAttempts then
    sendCommand .readBlockCmd 17 s.sectorArg { s with attempt := s.attempt + 1 }
  else raises e s

/-- After CMD17 (R227): the data frame. -/
def afterReadBlockCmd (s : State) : State :=
  if xferCheck s.resp = .ok then s.enter .readBlockData .tokDeadline else retryOrRaise (xferCheck s.resp) s

/-- After READ_BLOCK's frame (R227). -/
def afterReadBlockData (e : Err) (s : State) : State :=
  if e = .ok then returns 0 s else retryOrRaise e s

/-! ### WRITE_BLOCK -/

/-- CMD24 (R229). -/
def beginWriteBlock (s : State) : State :=
  sendCommand .writeBlockCmd 24 s.sectorArg s

/-- After CMD24 (R229): the written frame. -/
def afterWriteBlockCmd (s : State) : State :=
  if xferCheck s.resp = .ok then s.enter .writeBlockData .pad else raises (xferCheck s.resp) s

/-- The operation completes with result `e` and value 0 (R282). -/
def completes (e : Err) (s : State) : State := s.due (.finish e 0)

/-! ### READ_BLOCKS -/

/-- A multi-block command is sent: `MB_OPEN` is 1 from its first byte on (R45; log entry 11). -/
def openMulti (st : Stage) (idx : BitVec 6) (s : State) : State :=
  sendCommand st idx s.sectorArg { s with mbOpen := true }

/-- Count 1 runs READ_BLOCK (R236); else CMD18 (R230). -/
def beginReadBlocks (s : State) : State :=
  if s.latCount = 1 then beginReadBlock s else openMulti .readBlocksCmd 18 s

/-- The termination begins: CMD12 (R231). -/
def stopRead (s : State) : State := sendCommand .readBlocksStop 12 0 s

/-- After CMD18 (R230): `FIRST_ERR`, `MB_OPEN`, then block 0 or the termination. -/
def afterReadBlocksCmd (s : State) : State :=
  if xferCheck s.resp = .ok then
    { s with firstErr := .ok, mbOpen := true, blkIdx := 0 }.enter .readBlocksData .tokDeadline
  else stopRead { s with firstErr := xferCheck s.resp, mbOpen := true }

/-- After a block's frame (R230): the next block, or the termination. -/
def afterReadBlocksData (e : Err) (s : State) : State :=
  if e = .ok then
    if s.blkIdx + 1 < s.latCount.toNat then { s with blkIdx := s.blkIdx + 1 }.due .tokDeadline else stopRead s
  else stopRead { s with firstErr := e }

/-- After CMD12 (R230, R231): its status is recorded, and the busy wait always follows. -/
def afterStop (s : State) : State := s.enter (.readBlocksBusy (xferCheck s.resp)) .busyDeadline

/-! ### WRITE_BLOCKS -/

/-- CMD25 (R232). -/
def beginWriteMulti (s : State) : State := openMulti .writeBlocksCmd 25 s

/-- Count 1 runs WRITE_BLOCK (R236); else the pre-erase hint if configured (R233), else CMD25 (R232). -/
def beginWriteBlocks (s : State) : State :=
  if s.latCount = 1 then beginWriteBlock s
  else if s.cfg.preErase then sendCommand .preErasePrefix 55 0 s
  else beginWriteMulti s

/-- After the hint's CMD55 (R233): ACMD23 only if the prefix was accepted. -/
def afterPreErasePrefix (s : State) : State :=
  if accepted s.resp then sendCommand .preEraseCount 23 s.eraseArg s else beginWriteMulti s

/-- The termination begins: the stop token (R234). -/
def stopWrite (s : State) : State := s.enter .writeBlocksStop (.tokTx tokenStop)

/-- After CMD25 (R232). -/
def afterWriteBlocksCmd (s : State) : State :=
  if xferCheck s.resp = .ok then
    { s with firstErr := .ok, mbOpen := true, blkIdx := 0 }.enter .writeBlocksData .pad
  else stopWrite { s with firstErr := xferCheck s.resp, mbOpen := true }

/-- After a block's frame with result `e` (R232): the next block, or the termination. -/
def afterWriteBlocksData (e : Err) (s : State) : State :=
  if e = .ok then
    if s.blkIdx + 1 < s.latCount.toNat then { s with blkIdx := s.blkIdx + 1 }.enter .writeBlocksData .pad
    else stopWrite s
  else stopWrite { s with firstErr := e }

/-! ### SECTOR_COUNT -/

/-- The cached count, or CMD9 (R268-R270). -/
def beginSectorCount (s : State) : State :=
  if s.scValid then returns s.scValue s else sendCommand .sectorCountCmd 9 0 s

/-- After CMD9 (R269): the CSD frame. -/
def afterSectorCountCmd (s : State) : State :=
  if xferCheck s.resp = .ok then s.enter .sectorCountData .tokDeadline else raises (xferCheck s.resp) s

/-- After the CSD frame (R268): the parser, and the cache on success. -/
def afterSectorCountData (e : Err) (s : State) : State :=
  if e = .ok then
    match csdParse s.csdReg.toList with
    | (.ok, n) => returns n { s with scValue := n, scValid := true }
    | (e, _) => raises e s
  else raises e s

end Sys2Proof.Machine
end

