-- ==== Sys2Proof/Machine/Sequencer.lean ====
section
/-! DEFINITION. The sequencer (spec/10_state.md R43, R44): the entry of each operation, what follows each subroutine of the
command engine (spec/42_command_engine.md) and of the frame controller (spec/44_block_transfer.md R222-R226), and the register
updates and the next primitive after each primitive performed. -/

namespace Sys2Proof.Machine

/-! ### Entries and preconditions -/

/-- The entry of a CRC operation (R138, R139): the range check, then byte 0, or the result for no bytes. -/
def beginCrc (s : State) : State :=
  if s.latLen.toNat > s.cfg.hostbufSize then raises .parameterOutOfRange s
  else if s.latLen = 0 then returns 0 s
  else s.due (.pureGet 0)

/-- An operation's first step, up to its first primitive (R44). -/
def entry (s : State) : State :=
  match s.seq.stage with
  | .reserved => raises .parameterOutOfRange s
  | .cardPresent => s.due .present
  | .isBlockAddressed => returns (if s.lifecycle = .ready ∧ s.blockAddr = true then 1 else 0) s
  | .teardownOp => beginTeardown (.complete .ok) s
  | .initStart => beginTeardown .detect s
  | .readBlock => s.due .present
  | .writeBlock => s.due .present
  | .readBlocks => s.due .present
  | .writeBlocks => s.due .present
  | .sectorCount => s.due .present
  | .crc7 => beginCrc { s with crc7r := if s.latLen.toNat > s.cfg.hostbufSize then s.crc7r else 0 }
  | .crc16 => beginCrc { s with crc16r := if s.latLen.toNat > s.cfg.hostbufSize then s.crc16r else 0 }
  | .csdParse _ => s.due (.pureGet 0)
  | _ => noSuchPosition s

/-- `PreSession()` after its `Present()` (R220): lost presence tears the session down; then a READY session is needed. -/
def preSession (k : State → State) (s : State) : State :=
  if s.pval = false then beginTeardown (.complete .noCard) s
  else if s.lifecycle ≠ .ready then raises .noCard s
  else k s

/-- `Pre(s, n)` after its `Present()` (R220). -/
def preTransfer (k : State → State) (s : State) : State :=
  preSession (fun s => if s.preCheck s.transferCount = .ok then k s else raises (s.preCheck s.transferCount) s) s

/-- After the operation's `Present()` (R124, R182, R198, R220). -/
def afterPresent (s : State) : State :=
  match s.seq.stage with
  | .cardPresent => if s.pval then returns 1 s else beginTeardown (.complete .ok) s
  | .initStart => afterDetect s
  | .readBlock => preTransfer beginReadBlock s
  | .writeBlock => preTransfer beginWriteBlock s
  | .readBlocks => preTransfer beginReadBlocks s
  | .writeBlocks => preTransfer beginWriteBlocks s
  | .sectorCount => preSession beginSectorCount s
  | _ => noSuchPosition s

/-! ### The command engine -/

/-- After a command's response (or its absence), by the call that issued it (R151, R153, R154). -/
def afterCommand (s : State) : State :=
  match s.seq.stage with
  | .initReset => afterReset s
  | .initVcheck => afterVcheck s
  | .initCrcen => afterCrcen s
  | .initOcr => afterOcr s
  | .initApp => afterApp s
  | .initOpCond => afterOpCond s
  | .initCap => afterCap s
  | .initBlklen => afterBlkLen s
  | .readBlockCmd => afterReadBlockCmd s
  | .writeBlockCmd => afterWriteBlockCmd s
  | .readBlocksCmd => afterReadBlocksCmd s
  | .readBlocksStop => afterStop s
  | .preErasePrefix => afterPreErasePrefix s
  | .preEraseCount => beginWriteMulti s
  | .writeBlocksCmd => afterWriteBlocksCmd s
  | .sectorCountCmd => afterSectorCountCmd s
  | _ => noSuchPosition s

/-- The stages whose command has a 5-byte response: CMD8 and CMD58 (R89, R154). -/
def Stage.extended : Stage → Bool
  | .initVcheck => true
  | .initOcr => true
  | .initCap => true
  | _ => false

/-- The poll returns `r` (R151, R152): `RESP`, then the 4 trailing bytes if there are any and a status byte came (R154). -/
def pollReturns (r : Byte) (s : State) : State :=
  if r.getLsbD 7 = false ∧ s.seq.stage.extended = true then { s with resp := r }.due (.ext 1 0)
  else afterCommand { s with resp := r }

/-- Poll `k` brought no status byte (R152): the next of 8 polls, or the last byte is returned. -/
def pollAgain (k : Nat) (s : State) : State :=
  if k < r1Poll then s.due (.poll (k + 1)) else pollReturns s.rx s

/-- After byte `k` of a packet (R150): the next byte, the stop gap (R153), or the first poll (R152). -/
def afterPacketByte (k : Nat) (s : State) : State :=
  if k < 5 then s.due (.cmdTx (k + 1))
  else if s.seq.stage = .readBlocksStop then s.due .stopGap
  else s.due (.poll 1)

/-- The trailing bytes so far, the byte just received included (R65, R154). -/
def extWord (x : Word) (b : Byte) : Word := (x <<< 8) ||| b.setWidth 32

/-- The extended response is complete: `RESPX`, then the command's caller (R154). -/
def extReturns (status : BitVec 7) (x : Word) (s : State) : State :=
  afterCommand { s with resp := 0#1 ++ status, respx := x }

/-! ### The frame controller -/

/-- `ReadData` returns `e` (R223), by the call that read the frame. -/
def afterFrame (e : Err) (s : State) : State :=
  match s.seq.stage with
  | .readBlockData => afterReadBlockData e s
  | .readBlocksData => afterReadBlocksData e s
  | .sectorCountData => afterSectorCountData e s
  | _ => noSuchPosition s

/-- The start token has been received (R222, R223): the first payload byte. -/
def frameStarts (s : State) : State := (startFrame s).due .dataRx

/-- After a payload byte is stored (R223): the next one, or the CRC. -/
def nextPayload (s : State) : State :=
  if s.byteIdx + 1 < s.frameSize then { s with byteIdx := s.byteIdx + 1 }.due .dataRx else s.due .crcHi

/-- After a payload byte is received (R223): the CSD's goes to CSDREG (R269), a sector's to HOSTBUF. -/
def afterPayloadRx (s : State) : State :=
  match s.seq.stage with
  | .sectorCountData => nextPayload { absorb s.rx s with csdReg := s.csdReg.setIfInBounds s.byteIdx s.rx }
  | _ => (absorb s.rx s).due .dataPut

/-- After the second CRC byte (R223): compared only when `CRC_ON` = 1. -/
def afterCrcRx (hi : Byte) (s : State) : State :=
  if s.crcOn = true ∧ (hi ++ s.rx : BitVec 16) ≠ s.crc16r then afterFrame .dataCrcError s else afterFrame .ok s

/-- The start token of the frame being written (R225). -/
def State.startToken (s : State) : Byte :=
  match s.seq.stage with
  | .writeBlocksData => tokenMulti
  | _ => tokenSingle

/-- After a token is sent (R225, R234): the payload, or the byte after the stop token. -/
def afterTokenTx (s : State) : State :=
  match s.seq.stage with
  | .writeBlocksStop => s.due .stopByte
  | _ => (startFrame s).due .dataGet

/-- After a payload byte is sent (R225): the next one, or the CRC. -/
def afterPayloadTx (s : State) : State :=
  if s.byteIdx + 1 < blockSize then { s with byteIdx := s.byteIdx + 1 }.due .dataGet else s.due .crcTxHi

/-- The data response `b` (R225, R226): the busy wait always follows. -/
def responseReceived (b : Byte) (s : State) : State :=
  match s.seq.stage with
  | .writeBlockData => s.enter (.writeBlockBusy (dataResp b)) .busyDeadline
  | .writeBlocksData => s.enter (.writeBlocksBusy (dataResp b)) .busyDeadline
  | _ => noSuchPosition s

/-- `BusyWait` returns `eb` (R224), by the call that waited: the first error wins (R225, R230, R235). -/
def afterBusy (eb : Err) (s : State) : State :=
  match s.seq.stage with
  | .writeBlockBusy e => completes (e.orElse eb) s
  | .writeBlocksBusy e => afterWriteBlocksData (e.orElse eb) s
  | .readBlocksBusy e2 => completes ((s.firstErr.orElse e2).orElse eb) { s with mbOpen := false }
  | .writeBlocksStop => completes (s.firstErr.orElse eb) { s with mbOpen := false }
  | _ => noSuchPosition s

/-! ### The pure operations -/

/-- After byte `a` is read by a pure operation (R138, R139, R267). -/
def afterPureGet (a : Nat) (s : State) : State :=
  match s.seq.stage with
  | .crc7 =>
    if a + 1 < s.latLen.toNat then { s with crc7r := crc7Byte s.crc7r s.mval }.due (.pureGet (a + 1))
    else returns ((crc7Byte s.crc7r s.mval).setWidth 32) { s with crc7r := crc7Byte s.crc7r s.mval }
  | .crc16 =>
    if a + 1 < s.latLen.toNat then { s with crc16r := crc16Byte s.crc16r s.mval }.due (.pureGet (a + 1))
    else returns ((crc16Byte s.crc16r s.mval).setWidth 32) { s with crc16r := crc16Byte s.crc16r s.mval }
  | .csdParse c =>
    if a + 1 < csdSize then s.enter (.csdParse (c ++ [s.mval])) (.pureGet (a + 1))
    else s.due (.finish (csdParse (c ++ [s.mval])).1 (csdParse (c ++ [s.mval])).2)
  | _ => noSuchPosition s

/-! ### What follows each primitive (R44) -/

/-- The register updates and the next primitive after the primitive just performed, where no received byte is looked at. -/
def advance (s : State) : State :=
  match s.seq.point with
  | .start => entry s
  | .tdCs => s.due .tdClk
  | .tdClk =>
    match s.seq.stage with
    | .tearingDown k => afterTeardown k s
    | _ => noSuchPosition s
  | .present => afterPresent s
  | .dummy k => afterDummy k s
  | .csAssert => beginReset s
  | .cmdTx k => afterPacketByte k s
  | .stopGap => s.due (.poll 1)
  | .ext k x => s.due (.ext (k + 1) (extWord x s.rx))
  | .opDeadline => afterOpDeadline s
  | .opCheck => afterOpCheck s
  | .tokDeadline => { s with deadline := s.tval + s.cfg.tToken }.due .tokWait
  | .tokCheck => if s.tval ≥ s.deadline then afterFrame .timeout s else s.due .tokWait
  | .dataRx => afterPayloadRx s
  | .dataPut => nextPayload s
  | .crcHi => s.due (.crcLo s.rx)
  | .crcLo hi => afterCrcRx hi s
  | .pad => s.due (.tokTx s.startToken)
  | .tokTx _ => afterTokenTx s
  | .dataGet => (absorb s.mval s).due .dataTx
  | .dataTx => afterPayloadTx s
  | .crcTxHi => s.due .crcTxLo
  | .crcTxLo => s.due .dresp
  | .busyDeadline => { s with deadline := s.tval + s.cfg.tBusy }.due .busyWait
  | .busyCheck => if s.tval ≥ s.deadline then afterBusy .timeout s else s.due .busyWait
  | .stopByte => s.due .busyDeadline
  | .pureGet a => afterPureGet a s
  | .clkFast => afterReady s
  | .poll _ => noSuchPosition s
  | .tokWait => noSuchPosition s
  | .dresp => noSuchPosition s
  | .busyWait => noSuchPosition s
  | .finish _ _ => noSuchPosition s
  | .stuck => noSuchPosition s

/-- The primitive that is due (R13), or the completion (R282), where no packet, token or fill byte is to be sent. -/
def perform (s : State) : Out :=
  match s.seq.point with
  | .tdCs => .next (setCs false s)
  | .tdClk => .next (setClk false s)
  | .present => .next (samplePresent s)
  | .csAssert => .next (setCs true s)
  | .cmdTx k => .next (xchg (packetByte s.pkt k) s)
  | .opDeadline => .next (sampleNow s)
  | .opCheck => .next (sampleNow s)
  | .tokDeadline => .next (sampleNow s)
  | .tokCheck => .next (sampleNow s)
  | .dataPut => memWrite s.payloadAddr s.rx s
  | .dataGet => memRead s.payloadAddr s
  | .dataTx => .next (xchg s.mval s)
  | .crcTxHi => .next (xchg (s.txCrc.extractLsb' 8 8) s)
  | .crcTxLo => .next (xchg (s.txCrc.extractLsb' 0 8) s)
  | .busyDeadline => .next (sampleNow s)
  | .busyCheck => .next (sampleNow s)
  | .pureGet a => memRead a s
  | .clkFast => .next (setClk true s)
  | .finish e v => .next (complete e v s)
  | _ => .fault .illegalPosition

end Sys2Proof.Machine
end

