-- ==== Sys2Proof/Machine/WireItems.lean ====
section
/-! DEFINITION. The tokens, responses and bus bytes (spec/30_encoding.md R90-R101). Executing a received one is what the block
does with it at the point where it looks at it, up to the next primitive; at any other point a received byte is discarded (R101).
Executing a sent one is its exchange. -/

namespace Sys2Proof.Machine

/-- The last primitive was a poll (R152). -/
def State.atPoll (s : State) : Bool :=
  s.seq.done && match s.seq.point with
    | .poll _ => true
    | _ => false

/-- The last primitive was an exchange of the token wait (R222). -/
def State.atTokWait (s : State) : Bool := s.seq.done && s.seq.point == .tokWait

/-- The last primitive received the data response (R225). -/
def State.atDresp (s : State) : Bool := s.seq.done && s.seq.point == .dresp

/-- The last primitive was an exchange of the busy wait (R224). -/
def State.atBusyWait (s : State) : Bool := s.seq.done && s.seq.point == .busyWait

/-- The last primitive received the fourth trailing byte of an extended response (R154). -/
def State.atExtEnd (s : State) : Bool :=
  s.seq.done && match s.seq.point with
    | .ext 4 _ => true
    | _ => false

/-- A byte looked at where `here` holds is handled by `f`; elsewhere it is discarded (R101). -/
def lookedAt (here : Bool) (f : State → State) (s : State) : Out :=
  .next (if here then f s else s)

/-! ### Tokens -/

/-- 0xFE: received by the token wait it starts the frame (R222); sent it precedes the block of CMD24 (R93). -/
def execTokenStartSingle (s : State) : Out :=
  if s.seq.done then lookedAt s.atTokWait frameStarts s else .next (xchg tokenSingle s)

/-- 0xFC, sent before every block of CMD25 (R94). -/
def execTokenStartMultiWrite (s : State) : Out := .next (xchg tokenMulti s)

/-- 0xFD, sent once to end a multi-block write (R95, R234). -/
def execTokenStopTran (s : State) : Out := .next (xchg tokenStop s)

/-- A read-error token ends the token wait with its error (R98, R222). -/
def execTokenReadError (e : BitVec 4) (s : State) : Out :=
  lookedAt s.atTokWait (afterFrame (readErrorToken e)) s

/-! ### Data responses -/

/-- Data accepted (R97, R226). -/
def execDrespAccepted (x : BitVec 3) (s : State) : Out :=
  lookedAt s.atDresp (responseReceived (x ++ 0x05#5)) s

/-- Data rejected with a CRC error (R97, R226). -/
def execDrespCrcError (x : BitVec 3) (s : State) : Out :=
  lookedAt s.atDresp (responseReceived (x ++ 0x0B#5)) s

/-- Data rejected with a write error (R97, R226). -/
def execDrespWriteError (x : BitVec 3) (s : State) : Out :=
  lookedAt s.atDresp (responseReceived (x ++ 0x0D#5)) s

/-! ### Responses -/

/-- A status byte from its flags (R90): bit 7 is 0. -/
def statusOf (p a e c l r i : Bool) : Byte :=
  0#1 ++ BitVec.ofBool p ++ BitVec.ofBool a ++ BitVec.ofBool e ++ BitVec.ofBool c ++ BitVec.ofBool l ++
    BitVec.ofBool r ++ BitVec.ofBool i

/-- The status byte ends the poll (R90, R152). -/
def execResp1 (p a e c l r i : Bool) (s : State) : Out :=
  lookedAt s.atPoll (pollReturns (statusOf p a e c l r i)) s

/-- CMD58's response (R91, R154). -/
def execResp3 (status : BitVec 7) (ocr : Word) (s : State) : Out :=
  lookedAt s.atExtEnd (extReturns status ocr) s

/-- CMD8's response (R92, R154). -/
def execResp7 (status : BitVec 7) (n : BitVec 4) (z : BitVec 16) (v : BitVec 4) (k : BitVec 8) (s : State) : Out :=
  lookedAt s.atExtEnd (extReturns status (n ++ z ++ v ++ k)) s

/-! ### Bus bytes -/

/-- The card is still busy: the deadline is checked (R99, R224). -/
def stillBusy (s : State) : State := s.due .busyCheck

/-- 0x00 in the busy wait (R99). -/
def execBusy (s : State) : Out := lookedAt s.atBusyWait stillBusy s

/-- What a received byte without a status (R152), a token (R222) or busy (R224) does: the idle byte 0xFF. -/
def idleByte (s : State) : State :=
  match s.seq.point with
  | .poll k => pollAgain k s
  | .tokWait => s.due .tokCheck
  | .busyWait => afterBusy .ok s
  | _ => s

/-- 0xFF: received, the idle byte (R101); sent, the fill byte of every exchange in which the block only receives (R100). -/
def execFill (s : State) : Out :=
  if s.seq.done then .next (idleByte s) else .next (xchg fillByte s)

/-- A received byte that is no item of its point (R101): a poll goes on, the token wait and the data response are unexpected
tokens (R222, R226), any other byte is busy (R224). -/
def strayByte (s : State) : State :=
  match s.seq.point with
  | .poll k => pollAgain k s
  | .tokWait => afterFrame .unexpectedDataToken s
  | .dresp => responseReceived s.rx s
  | .busyWait => stillBusy s
  | _ => noSuchPosition s

end Sys2Proof.Machine
end

