-- ==== Sys2Proof/Syntax.lean ====
section
/-! DEFINITION. The instructions of the SDSPI core: one constructor per row of spec/opcode_table.json. Three layers: the host
operations (spec/30_encoding.md R82), the command packets the block sends (R84-R88), and the tokens, responses and bus bytes
it sends or receives (R90-R100). -/

namespace Sys2Proof

/-- One constructor per row of the opcode table; a row's free bits are the constructor's fields. -/
inductive Instr where
  -- host operations: the operands are registers, not fields (R81)
  | cardPresent
  | initCard
  | isBlockAddressed
  | readBlock
  | writeBlock
  | readBlocks
  | writeBlocks
  | sectorCount
  | teardown
  | crc7
  | crc16
  | csdParse
  -- command packets: argument and CRC7 field where the table leaves them free (R84-R87)
  | cmd0
  | cmd8
  | cmd9 (crc : BitVec 7)
  | cmd12 (crc : BitVec 7)
  | cmd16 (crc : BitVec 7)
  | cmd17 (arg : Word) (crc : BitVec 7)
  | cmd18 (arg : Word) (crc : BitVec 7)
  | cmd24 (arg : Word) (crc : BitVec 7)
  | cmd25 (arg : Word) (crc : BitVec 7)
  | cmd55 (crc : BitVec 7)
  | cmd58 (crc : BitVec 7)
  | cmd59
  | acmd23 (arg : Word) (crc : BitVec 7)
  | acmd41 (crc : BitVec 7)
  | acmd41Legacy (crc : BitVec 7)
  -- tokens (R93-R95)
  | tokenStartSingle
  | tokenStartMultiWrite
  | tokenStopTran
  -- data responses: bits [7:5] are ignored (R97)
  | drespAccepted (x : BitVec 3)
  | drespCrcError (x : BitVec 3)
  | drespWriteError (x : BitVec 3)
  -- read-error token: bits [3:0] (R98)
  | tokenReadError (e : BitVec 4)
  -- status byte: parameter, address, erase sequence, command CRC, illegal command, erase reset, idle (R90)
  | resp1 (p a s c l r i : Bool)
  -- extended responses: status bits [6:0] and the 4 trailing bytes (R91, R92)
  | resp3 (status : BitVec 7) (ocr : Word)
  | resp7 (status : BitVec 7) (n : BitVec 4) (z : BitVec 16) (v : BitVec 4) (k : BitVec 8)
  | busy
  | fill
  deriving DecidableEq, Repr

end Sys2Proof
end

