-- ==== Sys2Proof/Machine/Dispatch.lean ====
section
/-! DEFINITION. The dispatch: one arm per instruction, each one call of its meaning. -/

namespace Sys2Proof.Machine

def exec (i : Instr) (s : State) : Host.Outcome State Fault Refusal :=
  match i with
  | .cardPresent => Sys2Proof.Machine.execCardPresent s
  | .initCard => Sys2Proof.Machine.execInitCard s
  | .isBlockAddressed => Sys2Proof.Machine.execIsBlockAddressed s
  | .readBlock => Sys2Proof.Machine.execReadBlock s
  | .writeBlock => Sys2Proof.Machine.execWriteBlock s
  | .readBlocks => Sys2Proof.Machine.execReadBlocks s
  | .writeBlocks => Sys2Proof.Machine.execWriteBlocks s
  | .sectorCount => Sys2Proof.Machine.execSectorCount s
  | .teardown => Sys2Proof.Machine.execTeardown s
  | .crc7 => Sys2Proof.Machine.execCrc7 s
  | .crc16 => Sys2Proof.Machine.execCrc16 s
  | .csdParse => Sys2Proof.Machine.execCsdParse s
  | .cmd0 => Sys2Proof.Machine.execCmd0 s
  | .cmd8 => Sys2Proof.Machine.execCmd8 s
  | .cmd9 crc => Sys2Proof.Machine.execCmd9 crc s
  | .cmd12 crc => Sys2Proof.Machine.execCmd12 crc s
  | .cmd16 crc => Sys2Proof.Machine.execCmd16 crc s
  | .cmd17 arg crc => Sys2Proof.Machine.execCmd17 arg crc s
  | .cmd18 arg crc => Sys2Proof.Machine.execCmd18 arg crc s
  | .cmd24 arg crc => Sys2Proof.Machine.execCmd24 arg crc s
  | .cmd25 arg crc => Sys2Proof.Machine.execCmd25 arg crc s
  | .cmd55 crc => Sys2Proof.Machine.execCmd55 crc s
  | .cmd58 crc => Sys2Proof.Machine.execCmd58 crc s
  | .cmd59 => Sys2Proof.Machine.execCmd59 s
  | .acmd23 arg crc => Sys2Proof.Machine.execAcmd23 arg crc s
  | .acmd41 crc => Sys2Proof.Machine.execAcmd41 crc s
  | .acmd41Legacy crc => Sys2Proof.Machine.execAcmd41Legacy crc s
  | .tokenStartSingle => Sys2Proof.Machine.execTokenStartSingle s
  | .tokenStartMultiWrite => Sys2Proof.Machine.execTokenStartMultiWrite s
  | .tokenStopTran => Sys2Proof.Machine.execTokenStopTran s
  | .drespAccepted x => Sys2Proof.Machine.execDrespAccepted x s
  | .drespCrcError x => Sys2Proof.Machine.execDrespCrcError x s
  | .drespWriteError x => Sys2Proof.Machine.execDrespWriteError x s
  | .tokenReadError e => Sys2Proof.Machine.execTokenReadError e s
  | .resp1 p a e c l r d => Sys2Proof.Machine.execResp1 p a e c l r d s
  | .resp3 status ocr => Sys2Proof.Machine.execResp3 status ocr s
  | .resp7 status n z v k => Sys2Proof.Machine.execResp7 status n z v k s
  | .busy => Sys2Proof.Machine.execBusy s
  | .fill => Sys2Proof.Machine.execFill s

end Sys2Proof.Machine
end

