-- ==== Sys2Proof/WellFormed.lean ====
section
/-! DEFINITION. Which instructions are well formed: what spec/30_encoding.md says of the free fields of a row beyond their
width. -/

namespace Sys2Proof

/-- The CRC7 field of a packet is the computed CRC7 or the wildcard 1111111 (R85). -/
def crcFieldOk (idx : BitVec 6) (arg : Word) (crc : BitVec 7) : Bool :=
  crc == packetCrc idx arg || crc == 0x7F

/-- Well-formedness: a packet's CRC7 field is legal (R85), ACMD23's argument has 23 bits (R87), a read-error token has at
least one bit set (R98). Every other field may hold every value of its width. -/
def Instr.wf : Instr → Bool
  | .cmd9 crc => crcFieldOk 9 0 crc
  | .cmd12 crc => crcFieldOk 12 0 crc
  | .cmd16 crc => crcFieldOk 16 0x200 crc
  | .cmd17 arg crc => crcFieldOk 17 arg crc
  | .cmd18 arg crc => crcFieldOk 18 arg crc
  | .cmd24 arg crc => crcFieldOk 24 arg crc
  | .cmd25 arg crc => crcFieldOk 25 arg crc
  | .cmd55 crc => crcFieldOk 55 0 crc
  | .cmd58 crc => crcFieldOk 58 0 crc
  | .acmd23 arg crc => crcFieldOk 23 arg crc && arg.extractLsb' 23 9 == 0
  | .acmd41 crc => crcFieldOk 41 0x40000000 crc
  | .acmd41Legacy crc => crcFieldOk 41 0 crc
  | .tokenReadError e => e != 0
  | .cardPresent => true
  | .initCard => true
  | .isBlockAddressed => true
  | .readBlock => true
  | .writeBlock => true
  | .readBlocks => true
  | .writeBlocks => true
  | .sectorCount => true
  | .teardown => true
  | .crc7 => true
  | .crc16 => true
  | .csdParse => true
  | .cmd0 => true
  | .cmd8 => true
  | .cmd59 => true
  | .tokenStartSingle => true
  | .tokenStartMultiWrite => true
  | .tokenStopTran => true
  | .drespAccepted _ => true
  | .drespCrcError _ => true
  | .drespWriteError _ => true
  | .resp1 _ _ _ _ _ _ _ => true
  | .resp3 _ _ => true
  | .resp7 _ _ _ _ _ => true
  | .busy => true
  | .fill => true

end Sys2Proof
end

