-- ==== Sys2Proof/Decode.lean ====
section
/-! DEFINITION. The decoder of the three encoding layers (spec/30_encoding.md), total on any word, rejecting by name; after it
the encoder, written from the same tables. The wire rows of the opcode table overlap as bit patterns: which row a byte is, the
spec decides by the point at which the block looks at it (R80, R89, R101). So the decoder takes that point. -/

namespace Sys2Proof

/-- Where a word is looked at or sent from. -/
inductive Ctx where
  /-- the word written to `CTRL` (R81) -/
  | ctrlWrite
  /-- the 48-bit packet about to be sent (R84) -/
  | cmdPacket
  /-- a byte received by the status poll (R89, R152) -/
  | statusPoll
  /-- the 5-byte response of CMD58 (R91) -/
  | extOcr
  /-- the 5-byte response of CMD8 (R92) -/
  | extIfCond
  /-- a byte received by the token wait (R222) -/
  | tokenWait
  /-- the byte after the second CRC byte of a written frame (R225) -/
  | dataResponse
  /-- a byte received by the busy wait (R224) -/
  | busyWait
  /-- a token about to be sent (R93-R95) -/
  | tokenSend
  /-- the byte sent whenever the block only receives (R100) -/
  | fillSend
  deriving DecidableEq, Repr

/-- An encoded item, by its width (R80). -/
inductive Code where
  | ctrl (w : BitVec 32)
  | packet (w : BitVec 48)
  | byte (b : Byte)
  | ext (w : BitVec 40)
  deriving DecidableEq, Repr

/-- Why a word is no instruction at its point. -/
inductive DecodeError where
  /-- host opcode 0x00 or 0x0D-0xFF (R83) -/
  | reservedOpcode
  /-- bits 47:46 are not 01 (R84) -/
  | startBits
  /-- the end bit is 0 (R84) -/
  | endBit
  /-- a command index the block never sends (R86, R175) -/
  | unknownCommand
  /-- the argument of a command whose argument is fixed is another one (R86) -/
  | fixedArgument
  /-- the trailer of CMD0, CMD8 or CMD59 is another one (R159, R160, R170) -/
  | fixedTrailer
  /-- bit 7 is set and the byte is not 0xFF: no status byte yet (R101) -/
  | noStatusByte
  /-- bit 39 of an extended response is set: no status byte (R154) -/
  | noStatus
  /-- 0x00 or 0x10-0xFD in the token wait (R101) -/
  | unexpectedToken
  /-- bits [4:0] are no data-response code (R97) -/
  | invalidDataResponse
  /-- neither 0x00 nor 0xFF in the busy wait: still busy (R101) -/
  | otherBusyByte
  /-- not one of the three tokens the block sends -/
  | notAToken
  /-- not the fill byte -/
  | notFill
  /-- the word has not the width of its point -/
  | wrongWidth
  deriving DecidableEq, Repr

/-- The host opcode map (R82) over bits [7:0] of the word; bits [31:8] are ignored (R81). -/
def decodeHost (w : BitVec 32) : Except DecodeError Instr :=
  match (w.extractLsb' 0 8).toNat with
  | 1 => .ok .cardPresent
  | 2 => .ok .initCard
  | 3 => .ok .isBlockAddressed
  | 4 => .ok .readBlock
  | 5 => .ok .writeBlock
  | 6 => .ok .readBlocks
  | 7 => .ok .writeBlocks
  | 8 => .ok .sectorCount
  | 9 => .ok .teardown
  | 10 => .ok .crc7
  | 11 => .ok .crc16
  | 12 => .ok .csdParse
  | _ => .error .reservedOpcode

/-- The instruction `i` if the packet's argument is the fixed one. -/
def needArg (arg fixed : Word) (i : Instr) : Except DecodeError Instr :=
  if arg = fixed then .ok i else .error .fixedArgument

/-- The instruction `i` if the packet's argument and CRC7 are the fixed ones. -/
def needArgCrc (arg fixed : Word) (crc fixedCrc : BitVec 7) (i : Instr) : Except DecodeError Instr :=
  if arg = fixed then (if crc = fixedCrc then .ok i else .error .fixedTrailer) else .error .fixedArgument

/-- The command table (R86): index, argument and CRC7 field of a packet whose start and end bits are right. -/
def decodeCommand (idx : BitVec 6) (arg : Word) (crc : BitVec 7) : Except DecodeError Instr :=
  if idx = 0 then needArgCrc arg 0 crc 0x4A .cmd0
  else if idx = 8 then needArgCrc arg 0x1AA crc 0x43 .cmd8
  else if idx = 9 then needArg arg 0 (.cmd9 crc)
  else if idx = 12 then needArg arg 0 (.cmd12 crc)
  else if idx = 16 then needArg arg 0x200 (.cmd16 crc)
  else if idx = 17 then .ok (.cmd17 arg crc)
  else if idx = 18 then .ok (.cmd18 arg crc)
  else if idx = 24 then .ok (.cmd24 arg crc)
  else if idx = 25 then .ok (.cmd25 arg crc)
  else if idx = 55 then needArg arg 0 (.cmd55 crc)
  else if idx = 58 then needArg arg 0 (.cmd58 crc)
  else if idx = 59 then needArgCrc arg 1 crc 0x41 .cmd59
  else if idx = 23 then .ok (.acmd23 arg crc)
  else if idx = 41 then (if arg = 0x40000000 then .ok (.acmd41 crc) else needArg arg 0 (.acmd41Legacy crc))
  else .error .unknownCommand

/-- A command packet (R84): start bit 0, direction bit 1, index, argument, CRC7, end bit 1. -/
def decodePacket (w : BitVec 48) : Except DecodeError Instr :=
  if w.extractLsb' 46 2 = 1#2 then
    if w.getLsbD 0 = true then decodeCommand (w.extractLsb' 40 6) (w.extractLsb' 8 32) (w.extractLsb' 1 7)
    else .error .endBit
  else .error .startBits

/-- A byte with bit 7 clear is a status byte; any other is no response yet (R90, R101). -/
def decodeStatus (b : Byte) : Except DecodeError Instr :=
  if b.getLsbD 7 = false then
    .ok (.resp1 (b.getLsbD 6) (b.getLsbD 5) (b.getLsbD 4) (b.getLsbD 3) (b.getLsbD 2) (b.getLsbD 1) (b.getLsbD 0))
  else if b = 0xFF then .ok .fill
  else .error .noStatusByte

/-- CMD58's response (R91). -/
def decodeOcr (w : BitVec 40) : Except DecodeError Instr :=
  if w.getLsbD 39 = false then .ok (.resp3 (w.extractLsb' 32 7) (w.extractLsb' 0 32)) else .error .noStatus

/-- CMD8's response (R92). -/
def decodeIfCond (w : BitVec 40) : Except DecodeError Instr :=
  if w.getLsbD 39 = false then
    .ok (.resp7 (w.extractLsb' 32 7) (w.extractLsb' 28 4) (w.extractLsb' 12 16) (w.extractLsb' 8 4) (w.extractLsb' 0 8))
  else .error .noStatus

/-- The token wait's classification of a byte (R101, R222). -/
def decodeTokenWait (b : Byte) : Except DecodeError Instr :=
  if b = 0xFE then .ok .tokenStartSingle
  else if b = 0xFF then .ok .fill
  else if b.extractLsb' 4 4 = 0 ∧ b ≠ 0 then .ok (.tokenReadError (b.extractLsb' 0 4))
  else .error .unexpectedToken

/-- The data response: bits [4:0] are significant, bits [7:5] are ignored (R97). -/
def decodeDataResponse (b : Byte) : Except DecodeError Instr :=
  if b.extractLsb' 0 5 = 0x05 then .ok (.drespAccepted (b.extractLsb' 5 3))
  else if b.extractLsb' 0 5 = 0x0B then .ok (.drespCrcError (b.extractLsb' 5 3))
  else if b.extractLsb' 0 5 = 0x0D then .ok (.drespWriteError (b.extractLsb' 5 3))
  else .error .invalidDataResponse

/-- The busy wait's classification of a byte (R99, R101). -/
def decodeBusyWait (b : Byte) : Except DecodeError Instr :=
  if b = 0xFF then .ok .fill else if b = 0 then .ok .busy else .error .otherBusyByte

/-- The three tokens the block sends (R93-R95). -/
def decodeTokenSend (b : Byte) : Except DecodeError Instr :=
  if b = 0xFE then .ok .tokenStartSingle
  else if b = 0xFC then .ok .tokenStartMultiWrite
  else if b = 0xFD then .ok .tokenStopTran
  else .error .notAToken

/-- The fill byte (R100). -/
def decodeFillSend (b : Byte) : Except DecodeError Instr :=
  if b = 0xFF then .ok .fill else .error .notFill

/-- The decoder: what item a word is at the point it stands at. -/
def decode (c : Ctx) (w : Code) : Except DecodeError Instr :=
  match c, w with
  | .ctrlWrite, .ctrl w => decodeHost w
  | .cmdPacket, .packet w => decodePacket w
  | .statusPoll, .byte b => decodeStatus b
  | .extOcr, .ext w => decodeOcr w
  | .extIfCond, .ext w => decodeIfCond w
  | .tokenWait, .byte b => decodeTokenWait b
  | .dataResponse, .byte b => decodeDataResponse b
  | .busyWait, .byte b => decodeBusyWait b
  | .tokenSend, .byte b => decodeTokenSend b
  | .fillSend, .byte b => decodeFillSend b
  | _, _ => .error .wrongWidth

/-! ### The encoder -/

/-- A status byte from its seven flags (R90): bit 7 is 0. -/
def statusByte (p a s c l r i : Bool) : Byte :=
  0#1 ++ BitVec.ofBool p ++ BitVec.ofBool a ++ BitVec.ofBool s ++ BitVec.ofBool c ++ BitVec.ofBool l ++
    BitVec.ofBool r ++ BitVec.ofBool i

/-- The encoding of every instruction, at its width (R80, R81, R84, R90-R100). -/
def encode : Instr → Code
  | .cardPresent => .ctrl 1
  | .initCard => .ctrl 2
  | .isBlockAddressed => .ctrl 3
  | .readBlock => .ctrl 4
  | .writeBlock => .ctrl 5
  | .readBlocks => .ctrl 6
  | .writeBlocks => .ctrl 7
  | .sectorCount => .ctrl 8
  | .teardown => .ctrl 9
  | .crc7 => .ctrl 10
  | .crc16 => .ctrl 11
  | .csdParse => .ctrl 12
  | .cmd0 => .packet (packet 0 0 0x4A)
  | .cmd8 => .packet (packet 8 0x1AA 0x43)
  | .cmd9 crc => .packet (packet 9 0 crc)
  | .cmd12 crc => .packet (packet 12 0 crc)
  | .cmd16 crc => .packet (packet 16 0x200 crc)
  | .cmd17 arg crc => .packet (packet 17 arg crc)
  | .cmd18 arg crc => .packet (packet 18 arg crc)
  | .cmd24 arg crc => .packet (packet 24 arg crc)
  | .cmd25 arg crc => .packet (packet 25 arg crc)
  | .cmd55 crc => .packet (packet 55 0 crc)
  | .cmd58 crc => .packet (packet 58 0 crc)
  | .cmd59 => .packet (packet 59 1 0x41)
  | .acmd23 arg crc => .packet (packet 23 arg crc)
  | .acmd41 crc => .packet (packet 41 0x40000000 crc)
  | .acmd41Legacy crc => .packet (packet 41 0 crc)
  | .tokenStartSingle => .byte 0xFE
  | .tokenStartMultiWrite => .byte 0xFC
  | .tokenStopTran => .byte 0xFD
  | .drespAccepted x => .byte (x ++ 0x05#5)
  | .drespCrcError x => .byte (x ++ 0x0B#5)
  | .drespWriteError x => .byte (x ++ 0x0D#5)
  | .tokenReadError e => .byte (0#4 ++ e)
  | .resp1 p a s c l r i => .byte (statusByte p a s c l r i)
  | .resp3 status ocr => .ext (0#1 ++ status ++ ocr)
  | .resp7 status n z v k => .ext (0#1 ++ status ++ n ++ z ++ v ++ k)
  | .busy => .byte 0
  | .fill => .byte 0xFF

/-- The point at which an instruction is looked at or sent from. The start token 0xFE is also received (at `tokenWait`), and
the fill byte also received (at `statusPoll`, `tokenWait` and `busyWait`). -/
def Instr.home : Instr → Ctx
  | .cardPresent => .ctrlWrite
  | .initCard => .ctrlWrite
  | .isBlockAddressed => .ctrlWrite
  | .readBlock => .ctrlWrite
  | .writeBlock => .ctrlWrite
  | .readBlocks => .ctrlWrite
  | .writeBlocks => .ctrlWrite
  | .sectorCount => .ctrlWrite
  | .teardown => .ctrlWrite
  | .crc7 => .ctrlWrite
  | .crc16 => .ctrlWrite
  | .csdParse => .ctrlWrite
  | .cmd0 => .cmdPacket
  | .cmd8 => .cmdPacket
  | .cmd9 _ => .cmdPacket
  | .cmd12 _ => .cmdPacket
  | .cmd16 _ => .cmdPacket
  | .cmd17 _ _ => .cmdPacket
  | .cmd18 _ _ => .cmdPacket
  | .cmd24 _ _ => .cmdPacket
  | .cmd25 _ _ => .cmdPacket
  | .cmd55 _ => .cmdPacket
  | .cmd58 _ => .cmdPacket
  | .cmd59 => .cmdPacket
  | .acmd23 _ _ => .cmdPacket
  | .acmd41 _ => .cmdPacket
  | .acmd41Legacy _ => .cmdPacket
  | .tokenStartSingle => .tokenSend
  | .tokenStartMultiWrite => .tokenSend
  | .tokenStopTran => .tokenSend
  | .drespAccepted _ => .dataResponse
  | .drespCrcError _ => .dataResponse
  | .drespWriteError _ => .dataResponse
  | .tokenReadError _ => .tokenWait
  | .resp1 _ _ _ _ _ _ _ => .statusPoll
  | .resp3 _ _ => .extOcr
  | .resp7 _ _ _ _ _ => .extIfCond
  | .busy => .busyWait
  | .fill => .fillSend

/-! ### The opcode table's words, without a point -/

/-- The first of two readings that succeeds. -/
def firstOk (x y : Except DecodeError Instr) : Except DecodeError Instr :=
  match x with
  | .ok i => .ok i
  | .error _ => y

/-- A one-byte table word without its point: the row with the most fixed bits wins (DESIGN CHOICE, log entry 13). -/
def decodeTableByte (b : Byte) : Except DecodeError Instr :=
  firstOk (decodeTokenSend b) <| firstOk (decodeBusyWait b) <| firstOk (decodeHost (b.setWidth 32)) <|
    firstOk (decodeDataResponse b) <| firstOk (decodeTokenWait b) (decodeStatus b)

/-- A five-byte table word without its point: CMD8's response when the reserved field W[27:12] is 0, else CMD58's
(DESIGN CHOICE, log entry 13). -/
def decodeTableExt (w : BitVec 40) : Except DecodeError Instr :=
  if w.extractLsb' 12 16 = 0 then decodeIfCond w else decodeOcr w

/-- The instruction the decoder reads from a table word of `nbits` bits. A packet and an extended response are one 48-bit
and one 40-bit number whose most significant byte goes first on the wire, as the table numbers them (R84; log entry 13). -/
def decodeTableWord (nbits w : Nat) : Option Instr :=
  let r :=
    if nbits = 8 then decodeTableByte (BitVec.ofNat 8 w)
    else if nbits = 16 ∨ nbits = 24 ∨ nbits = 32 then decodeHost (BitVec.ofNat 32 w)
    else if nbits = 40 then decodeTableExt (BitVec.ofNat 40 w)
    else if nbits = 48 then decodePacket (BitVec.ofNat 48 w)
    else .error .wrongWidth
  match r with
  | .ok i => some i
  | .error _ => none

end Sys2Proof
end

