-- ==== Sys2Proof/Machine/Fetch.lean ====
section
/-! DEFINITION. What the sequencer looks at and what it is about to send, as words for the decoder (spec/30_encoding.md R80, R101),
and where a table word is placed so that the next step runs it. -/

namespace Sys2Proof.Machine

/-- The received item that is looked at after the primitive just performed, with the point that says how to read it (R101). -/
def received (s : State) : Option (Ctx × Code) :=
  match s.seq.point with
  | .poll _ => some (.statusPoll, .byte s.rx)
  | .ext 4 x =>
    match s.seq.stage with
    | .initVcheck => some (.extIfCond, .ext (s.resp ++ extWord x s.rx))
    | .initOcr => some (.extOcr, .ext (s.resp ++ extWord x s.rx))
    | .initCap => some (.extOcr, .ext (s.resp ++ extWord x s.rx))
    | _ => none
  | .tokWait => some (.tokenWait, .byte s.rx)
  | .dresp => some (.dataResponse, .byte s.rx)
  | .busyWait => some (.busyWait, .byte s.rx)
  | _ => none

/-- The item that is about to be sent: a packet, a token, or the fill byte (R84, R93-R95, R100). -/
def toSend (s : State) : Option (Ctx × Code) :=
  match s.seq.point with
  | .cmdTx 0 => some (.cmdPacket, .packet s.pkt)
  | .tokTx t => some (.tokenSend, .byte t)
  | .dummy _ => some (.fillSend, .byte fillByte)
  | .stopGap => some (.fillSend, .byte fillByte)
  | .poll _ => some (.fillSend, .byte fillByte)
  | .ext _ _ => some (.fillSend, .byte fillByte)
  | .tokWait => some (.fillSend, .byte fillByte)
  | .dataRx => some (.fillSend, .byte fillByte)
  | .crcHi => some (.fillSend, .byte fillByte)
  | .crcLo _ => some (.fillSend, .byte fillByte)
  | .pad => some (.fillSend, .byte fillByte)
  | .dresp => some (.fillSend, .byte fillByte)
  | .busyWait => some (.fillSend, .byte fillByte)
  | .stopByte => some (.fillSend, .byte fillByte)
  | _ => none

/-- The block is running, at a point, in a stage; nothing else changes. -/
def State.running (st : Stage) (p : Point) (done : Bool) (s : State) : State :=
  { s with busy := true, seq := ⟨st, p, done⟩, inputs := .run :: s.inputs }

/-- The stage that sends a command (the first one, for a command with two callers). -/
def commandStage : Instr → Stage
  | .cmd0 => .initReset
  | .cmd8 => .initVcheck
  | .cmd9 _ => .sectorCountCmd
  | .cmd12 _ => .readBlocksStop
  | .cmd16 _ => .initBlklen
  | .cmd17 _ _ => .readBlockCmd
  | .cmd18 _ _ => .readBlocksCmd
  | .cmd24 _ _ => .writeBlockCmd
  | .cmd25 _ _ => .writeBlocksCmd
  | .cmd55 _ => .initApp
  | .cmd58 _ => .initOcr
  | .cmd59 => .initCrcen
  | .acmd23 _ _ => .preEraseCount
  | .acmd41 _ => .initOpCond
  | .acmd41Legacy _ => .initOpCond
  | _ => .idle

/-- Where an instruction's word stands so that the very next step runs it: a host operation as the host's next `CTRL` write to
an idle block; a packet or token as the item about to be sent by a procedure that sends it; a response as the bytes just
received at the point that looks at them (log entry 5). -/
def place (i : Instr) (w : Nat) (s : State) : State :=
  match i.home with
  | .ctrlWrite => { s with busy := false, seq := Seq.idle, inputs := .write 0 (BitVec.ofNat 32 w) :: s.inputs }
  | .cmdPacket => { s with pkt := BitVec.ofNat 48 w }.running (commandStage i) (.cmdTx 0) false
  | .tokenSend => s.running (if i = .tokenStopTran then .writeBlocksStop else if i = .tokenStartSingle then .writeBlockData
      else .writeBlocksData) (.tokTx (BitVec.ofNat 8 w)) false
  | .fillSend => s.running .initStart (.dummy 1) false
  | .statusPoll => { s with rx := BitVec.ofNat 8 w }.running .readBlockCmd (.poll 1) true
  | .extOcr => { s with resp := (BitVec.ofNat 40 w).extractLsb' 32 8, rx := BitVec.ofNat 8 w }.running .initOcr
      (.ext 4 ((BitVec.ofNat 40 w).extractLsb' 8 24 |>.setWidth 32)) true
  | .extIfCond => { s with resp := (BitVec.ofNat 40 w).extractLsb' 32 8, rx := BitVec.ofNat 8 w }.running .initVcheck
      (.ext 4 ((BitVec.ofNat 40 w).extractLsb' 8 24 |>.setWidth 32)) true
  | .tokenWait => { s with rx := BitVec.ofNat 8 w }.running .readBlockData .tokWait true
  | .dataResponse => { s with rx := BitVec.ofNat 8 w }.running .writeBlockData .dresp true
  | .busyWait => { s with rx := BitVec.ofNat 8 w }.running (.writeBlockBusy .ok) .busyWait true

/-- The table word `w` of `nbits` bits placed for the next step; a word that is no instruction is placed as a `CTRL` write. -/
def placeWord (nbits w : Nat) (s : State) : State :=
  match decodeTableWord nbits w with
  | some i => place i w s
  | none => { s with busy := false, seq := Seq.idle, inputs := .write 0 (BitVec.ofNat 32 w) :: s.inputs }

end Sys2Proof.Machine
end

