-- ==== Sys2Proof/Machine/Step.lean ====
section
/-! DEFINITION. One step of the machine: the host's or the environment's next event, or the controller's step (spec/10_state.md
R44): the register updates that belong to the primitive that follows, then that primitive. -/

namespace Sys2Proof.Machine

/-- The first half of the controller's step: a received item is decoded and executed; elsewhere the sequencer moves on. The
primitive that comes next is then due. -/
def retire (s : State) : Out :=
  if s.seq.done then
    match received s with
    | some (c, w) =>
      match decode c w with
      | .ok i => exec i s
      | .error _ => .next (strayByte s)
    | none => .next (advance s)
  else .next s

/-- The second half: the packet, token or fill byte that is about to be sent is decoded and executed; any other primitive, and
the completion, is performed. -/
def issue (s : State) : Out :=
  match toSend s with
  | some (c, w) =>
    match decode c w with
    | .ok i => exec i s
    | .error _ => .fault .illegalItem
  | none => perform s

/-- The controller's step: one primitive, or the completion, while an operation runs; nothing while idle (R22, R44, R296). -/
def turn (s : State) : Out :=
  if s.busy then andThen (retire s) issue else .next s

/-- A host write of a 32-bit word (R21-R25): `CTRL` runs the host operation its word names, or starts a reserved one (R83). -/
def hostWrite (off : Nat) (v : Word) (s : State) : Out :=
  if off = 0 then
    match decode .ctrlWrite (.ctrl v) with
    | .ok i => exec i s
    | .error _ => .next (startReserved v s)
  else .next (hostWriteReg off v s)

/-- One step: the head of `inputs` says who moves; when it is empty the controller does (log entry 5). -/
def step (s : State) : Host.Outcome State Fault Refusal :=
  match s.inputs with
  | [] => turn s
  | .run :: r => turn { s with inputs := r }
  | .wait :: r => if s.busy then turn s else .next { s with inputs := r }
  | .write off v :: r => hostWrite off v { s with inputs := r }
  | .read off :: r => .next (hostRead off { s with inputs := r })
  | .narrow _ :: _ => .refused .narrowAccess
  | .bufWrite a b :: r => hostBufWrite a b { s with inputs := r }
  | .bufRead a :: r => hostBufRead a { s with inputs := r }
  | .cardDetect p :: r => .next (setCardDetect p { s with inputs := r })
  | .reset :: r => .next (hwReset { s with inputs := r })

/-- `s` with a table word where `step` takes its next instruction from (Fetch.lean: `place`). -/
def State.withFetchWord (s : State) (nbits w : Nat) : State := placeWord nbits w s

end Sys2Proof.Machine
end

