-- ==== Sys2Proof/Safety.lean ====
section
/-! DEFINITION. What a safe run of the SDSPI core is: the invariant of the states at rest (between two steps), in the terms the
statements use. -/

namespace Sys2Proof.Machine

/-- The outputs and the session agree, no operation being under way (R128): READY has chip select asserted and the fast clock,
UNINIT has neither and no session flag; IDLE exists only inside INITIALIZE. -/
def State.quiet (s : State) : Prop :=
  match s.lifecycle with
  | .ready => s.cs = true ∧ s.clkFast = true
  | .uninit => s.cs = false ∧ s.clkFast = false ∧ s.blockAddr = false ∧ s.crcOn = false ∧ s.legacy = false ∧ s.scValid = false
  | .idle => False

/-- A READY session with its outputs (R126, R220): what every exchange outside INITIALIZE has. -/
def State.sessionOpen (s : State) : Prop := s.lifecycle = .ready ∧ s.cs = true ∧ s.clkFast = true

/-- Inside INITIALIZE, the card selected and the clock slow (R184, R331), with the lifecycle `l` and an empty cache. -/
def State.selectedSlow (l : Lifecycle) (s : State) : Prop :=
  s.lifecycle = l ∧ s.cs = true ∧ s.clkFast = false ∧ s.scValid = false

/-- Inside INITIALIZE before chip select is asserted (R183): no session. -/
def State.deselected (s : State) : Prop :=
  s.lifecycle = .uninit ∧ s.cs = false ∧ s.clkFast = false ∧ s.blockAddr = false ∧ s.crcOn = false ∧ s.legacy = false ∧
    s.scValid = false

/-- The positions of a command's packet and poll (R150, R152). -/
def Point.inCommand : Point → Prop
  | .cmdTx k => k ≤ 5
  | .poll k => 1 ≤ k ∧ k ≤ 8
  | _ => False

/-- A command with a 5-byte response (R154): its trailing bytes too. -/
def Point.inExtCommand : Point → Prop
  | .ext k _ => 1 ≤ k ∧ k ≤ 4
  | p => p.inCommand

/-- The positions of a received frame of `n` bytes (R222, R223), the byte index within the payload. -/
def Point.inRead (n byteIdx : Nat) (stored : Prop) : Point → Prop
  | .tokDeadline => True
  | .tokWait => True
  | .tokCheck => True
  | .dataRx => byteIdx < n
  | .dataPut => byteIdx < n ∧ stored
  | .crcHi => True
  | .crcLo _ => True
  | _ => False

/-- The positions of a written frame with start token `tok` (R225). -/
def Point.inWrite (tok : Byte) (byteIdx : Nat) : Point → Prop
  | .pad => True
  | .tokTx t => t = tok
  | .dataGet => byteIdx < 512
  | .dataTx => byteIdx < 512
  | .crcTxHi => True
  | .crcTxLo => True
  | .dresp => True
  | _ => False

/-- The positions of a busy wait (R224). -/
def Point.inBusy : Point → Prop
  | .busyDeadline => True
  | .busyWait => True
  | .busyCheck => True
  | _ => False

/-- The transfer of `LAT_COUNT` blocks fits the host buffer (R220) and is a multi-block one (R236). -/
def State.multi (s : State) : Prop := 2 ≤ s.latCount.toNat ∧ 512 * s.latCount.toNat ≤ s.cfg.hostbufSize

/-- The current block is one of the transfer's (R230, R232). -/
def State.inBlocks (s : State) : Prop := s.multi ∧ s.blkIdx < s.latCount.toNat

/-- The position is one its procedure has (R43), and the outputs, the session and the indexes are as that position says. -/
def State.positionOk (s : State) : Prop :=
  match s.seq.stage with
  | .idle => False
  | .reserved => s.seq.point = .start ∧ s.quiet
  | .cardPresent => (s.seq.point = .start ∨ s.seq.point = .present) ∧ s.quiet
  | .isBlockAddressed => s.seq.point = .start ∧ s.quiet
  | .teardownOp => s.seq.point = .start ∧ s.quiet
  | .tearingDown _ => (s.seq.point = .tdCs ∨ s.seq.point = .tdClk ∧ s.clkFast = false) ∧ s.cs = false
  | .initStart =>
    match s.seq.point with
    | .start => s.quiet
    | .present => s.deselected
    | .dummy k => 1 ≤ k ∧ k ≤ 10 ∧ s.deselected
    | .csAssert => s.selectedSlow .uninit
    | _ => False
  | .initReset => s.seq.point.inCommand ∧ s.selectedSlow .uninit
  | .initVcheck => s.seq.point.inExtCommand ∧ s.selectedSlow .idle
  | .initCrcen => s.seq.point.inCommand ∧ s.selectedSlow .idle
  | .initOcr => s.seq.point.inExtCommand ∧ s.selectedSlow .idle
  | .initApp => (s.seq.point = .opDeadline ∨ s.seq.point.inCommand) ∧ s.selectedSlow .idle
  | .initOpCond => (s.seq.point = .opCheck ∨ s.seq.point.inCommand) ∧ s.selectedSlow .idle
  | .initCap => s.seq.point.inExtCommand ∧ s.selectedSlow .idle
  | .initBlklen => s.seq.point.inCommand ∧ s.selectedSlow .idle
  | .initReady => s.seq.point = .clkFast ∧ s.lifecycle = .idle ∧ s.cs = true ∧ s.clkFast = true ∧ s.scValid = false
  | .readBlock => (s.seq.point = .start ∨ s.seq.point = .present) ∧ s.quiet
  | .readBlockCmd => s.seq.point.inCommand ∧ s.sessionOpen
  | .readBlockData => s.seq.point.inRead 512 s.byteIdx True ∧ s.sessionOpen
  | .writeBlock => (s.seq.point = .start ∨ s.seq.point = .present) ∧ s.quiet
  | .writeBlockCmd => s.seq.point.inCommand ∧ s.sessionOpen
  | .writeBlockData => s.seq.point.inWrite 0xFE s.byteIdx ∧ s.sessionOpen
  | .writeBlockBusy _ => s.seq.point.inBusy ∧ s.sessionOpen
  | .readBlocks => (s.seq.point = .start ∨ s.seq.point = .present) ∧ s.quiet
  | .readBlocksCmd => s.seq.point.inCommand ∧ s.sessionOpen ∧ s.multi
  | .readBlocksData => s.seq.point.inRead 512 s.byteIdx True ∧ s.sessionOpen ∧ s.inBlocks
  | .readBlocksStop => (s.seq.point = .stopGap ∨ s.seq.point.inCommand) ∧ s.sessionOpen
  | .readBlocksBusy _ => s.seq.point.inBusy ∧ s.sessionOpen
  | .writeBlocks => (s.seq.point = .start ∨ s.seq.point = .present) ∧ s.quiet
  | .preErasePrefix => s.seq.point.inCommand ∧ s.sessionOpen ∧ s.multi
  | .preEraseCount => s.seq.point.inCommand ∧ s.sessionOpen ∧ s.multi
  | .writeBlocksCmd => s.seq.point.inCommand ∧ s.sessionOpen ∧ s.multi
  | .writeBlocksData => s.seq.point.inWrite 0xFC s.byteIdx ∧ s.sessionOpen ∧ s.inBlocks
  | .writeBlocksBusy _ => s.seq.point.inBusy ∧ s.sessionOpen ∧ s.inBlocks
  | .writeBlocksStop =>
    (s.seq.point = .tokTx 0xFD ∨ s.seq.point = .stopByte ∨ s.seq.point.inBusy) ∧ s.sessionOpen
  | .sectorCount => (s.seq.point = .start ∨ s.seq.point = .present) ∧ s.quiet
  | .sectorCountCmd => s.seq.point.inCommand ∧ s.sessionOpen
  | .sectorCountData => s.seq.point.inRead 16 s.byteIdx False ∧ s.sessionOpen
  | .crc7 =>
    match s.seq.point with
    | .start => s.quiet
    | .pureGet a => a < s.latLen.toNat ∧ s.latLen.toNat ≤ s.cfg.hostbufSize ∧ s.quiet
    | _ => False
  | .crc16 =>
    match s.seq.point with
    | .start => s.quiet
    | .pureGet a => a < s.latLen.toNat ∧ s.latLen.toNat ≤ s.cfg.hostbufSize ∧ s.quiet
    | _ => False
  | .csdParse c =>
    match s.seq.point with
    | .start => c = [] ∧ s.quiet
    | .pureGet a => a = c.length ∧ a < 16 ∧ s.quiet
    | _ => False

/-- The stages from a multi-block command's packet to the end of its termination (R45, R328; from its first byte: log entry 11). -/
def Stage.multiOpen : Stage → Bool
  | .readBlocksCmd => true
  | .writeBlocksCmd => true
  | .readBlocksData => true
  | .readBlocksStop => true
  | .readBlocksBusy _ => true
  | .writeBlocksData => true
  | .writeBlocksBusy _ => true
  | .writeBlocksStop => true
  | _ => false

/-- The invariant of the states at rest. -/
structure State.Inv (s : State) : Prop where
  /-- the parameters are in the ranges of R7 -/
  config : s.cfg.wf = true
  /-- HOSTBUF is in canonical form, inside its size (R61) -/
  memory : s.hostbuf.wf = true ∧ s.hostbuf.below s.cfg.hostbufSize = true
  /-- an invalid cache holds 0 (R36, R200) -/
  cache : s.scValid = false → s.scValue = 0
  /-- idle means SEQ = IDLE and outputs that agree with the session (R43, R128) -/
  idle : s.busy = false → s.seq = Seq.idle ∧ s.quiet
  /-- busy means a legal position at rest (R43, R44) -/
  position : s.busy = true → s.seq.done = true ∧ s.positionOk
  /-- a multi-block transfer is open exactly from its command's packet to its termination (R45, R328; DEDUCED: from the packet's
  first byte, log entry 11) -/
  multiBlock : s.mbOpen = s.seq.stage.multiOpen

/-! ### Runs of the controller -/

/-- `n` steps of the controller, with no host or environment event between them. -/
def turns : Nat → State → Out
  | 0, s => .next s
  | n + 1, s => andThen (turn s) (turns n)

/-- The bytes the block drives on MOSI in `n` steps of the controller, in order (R120). -/
def sentIn : Nat → State → List Byte
  | 0, _ => []
  | n + 1, s =>
    match turn s with
    | .next t => if t.xchgs = s.xchgs then sentIn n t else t.mosi :: sentIn n t
    | _ => []

/-- The command a stage sends: index and argument (R86, R87). -/
def State.commandOf (s : State) : Option (BitVec 6 × Word) :=
  match s.seq.stage with
  | .initReset => some (0, 0)
  | .initVcheck => some (8, 0x1AA)
  | .initCrcen => some (59, 1)
  | .initOcr => some (58, 0)
  | .initApp => some (55, 0)
  | .initOpCond => some (41, if s.legacy then 0 else 0x40000000)
  | .initCap => some (58, 0)
  | .initBlklen => some (16, 512)
  | .readBlockCmd => some (17, addrOf s.blockAddr s.latSector)
  | .writeBlockCmd => some (24, addrOf s.blockAddr s.latSector)
  | .readBlocksCmd => some (18, addrOf s.blockAddr s.latSector)
  | .readBlocksStop => some (12, 0)
  | .preErasePrefix => some (55, 0)
  | .preEraseCount => some (23, s.latCount &&& 0x007FFFFF)
  | .writeBlocksCmd => some (25, addrOf s.blockAddr s.latSector)
  | .sectorCountCmd => some (9, 0)
  | _ => none

/-- An event other than the block's reset comes next. -/
def State.noReset (s : State) : Prop := s.inputs.head? ≠ some .reset

/-- The last primitive was the second output change of Teardown: its register writes are due (R200). -/
def State.tornDown (s : State) : Prop := ∃ k, s.seq = ⟨.tearingDown k, .tdClk, true⟩

/-- The session, its cache, the CSD image and the outputs are the same (R32-R40). -/
structure State.sameSession (s t : State) : Prop where
  lifecycle : t.lifecycle = s.lifecycle
  blockAddr : t.blockAddr = s.blockAddr
  crcOn : t.crcOn = s.crcOn
  legacy : t.legacy = s.legacy
  scValid : t.scValid = s.scValid
  scValue : t.scValue = s.scValue
  csdReg : t.csdReg = s.csdReg
  cs : t.cs = s.cs
  clkFast : t.clkFast = s.clkFast

/-- No session and no asserted output: what Teardown leaves (R200). -/
structure State.noSession (t : State) : Prop where
  lifecycle : t.lifecycle = .uninit
  blockAddr : t.blockAddr = false
  crcOn : t.crcOn = false
  legacy : t.legacy = false
  scValid : t.scValid = false
  scValue : t.scValue = 0
  cs : t.cs = false
  clkFast : t.clkFast = false

/-- The registers a host operation latches and the ones only the host or the environment changes (R31, R48). -/
structure State.sameHostSide (s t : State) : Prop where
  cfg : t.cfg = s.cfg
  opcode : t.opcode = s.opcode
  sector : t.sector = s.sector
  count : t.count = s.count
  len : t.len = s.len
  latOp : t.latOp = s.latOp
  latSector : t.latSector = s.latSector
  latCount : t.latCount = s.latCount
  latLen : t.latLen = s.latLen
  inputs : t.inputs = s.inputs
  cd : t.cd = s.cd
  rdata : t.rdata = s.rdata

/-- No byte has been exchanged (R127). -/
structure State.noExchange (s t : State) : Prop where
  xchgs : t.xchgs = s.xchgs
  miso : t.miso = s.miso
  mosi : t.mosi = s.mosi

/-- The operation has completed with result `e` and value `v` (R282). -/
structure State.completed (e : Err) (v : Word) (t : State) : Prop where
  busy : t.busy = false
  result : t.result = e
  value : t.value = v
  seq : t.seq = Seq.idle

/-- The first `n` bytes of HOSTBUF. -/
def State.bufferBytes (s : State) (n : Nat) : List Byte := (List.range n).map s.hostbuf.read

end Sys2Proof.Machine
end

