-- ==== Sys2Proof/Certificates/Slice0/Obligations.lean ====
section
/-! DEFINITION. The statements about the model, for the provers. Each cites the rules of spec/ it formalises. -/

open Sys2Proof Sys2Proof.Machine

/-! ### Encodings -/

/-- R80-R100: every well-formed instruction, encoded and decoded at its own point, is itself. -/
def Obligations.DecodeInvertsEncode : Prop :=
  ∀ i : Instr, i.wf = true → decode i.home (encode i) = .ok i

/-- R80-R101: a word that decodes at any point but the `CTRL` write is the encoding of what it decodes to (no bit of it is
dropped); of a `CTRL` word only bits [7:0] count (R81). R82, R83: the twelve opcodes and the reserved ones. -/
def Obligations.DecodingIsLossless : Prop :=
  ((∀ (c : Ctx) (w : Code) (i : Instr), c ≠ .ctrlWrite → decode c w = .ok i → encode i = w) ∧
   (∀ (w : BitVec 32) (i : Instr), decode .ctrlWrite (.ctrl w) = .ok i → encode i = .ctrl (w &&& 0xFF))) ∧
  (([0x01, 0x02, 0x03, 0x04, 0x05, 0x06, 0x07, 0x08, 0x09, 0x0A, 0x0B, 0x0C].map fun w : BitVec 32 =>
       decode .ctrlWrite (.ctrl w)) =
     [.ok .cardPresent, .ok .initCard, .ok .isBlockAddressed, .ok .readBlock, .ok .writeBlock, .ok .readBlocks,
       .ok .writeBlocks, .ok .sectorCount, .ok .teardown, .ok .crc7, .ok .crc16, .ok .csdParse] ∧
   (∀ w : BitVec 32, decode .ctrlWrite (.ctrl w) = decode .ctrlWrite (.ctrl (w &&& 0xFF))) ∧
   (∀ w : BitVec 32, decode .ctrlWrite (.ctrl w) = .error .reservedOpcode ↔
     w &&& 0xFF = 0 ∨ 0x0D ≤ (w &&& 0xFF).toNat))

/-- Words of the spec's own examples and tables (R82, R93-R95, R99, R100, R137, R159-R172) decode to what they stand for. The
reading of a table word without its point is the model's (log entry 13). -/
def Obligations.SpecWordsDecode : Prop :=
  decodeTableWord 48 0x400000000095 = some .cmd0 ∧
  decodeTableWord 48 0x48000001AA87 = some .cmd8 ∧
  decodeTableWord 48 0x510000060021 = some (.cmd17 0x600 0x10) ∧
  decodeTableWord 48 0x6900000000E5 = some (.acmd41Legacy 0x72) ∧
  decodeTableWord 48 0x694000000077 = some (.acmd41 0x3B) ∧
  decodeTableWord 48 0x57000000020B = some (.acmd23 2 0x05) ∧
  decodeTableWord 8 0x09 = some .teardown ∧
  decodeTableWord 8 0xFE = some .tokenStartSingle ∧
  decodeTableWord 8 0xFC = some .tokenStartMultiWrite ∧
  decodeTableWord 8 0xFD = some .tokenStopTran ∧
  decodeTableWord 8 0x00 = some .busy ∧
  decodeTableWord 8 0xFF = some .fill ∧
  decodeTableWord 40 0x01000001AA = some (.resp7 0x01 0 0 1 0xAA)

/-- R64, R85, R132, R137: the six bytes of a framed packet, in every configuration. -/
def Obligations.FramedPacketBytes : Prop :=
  (∀ (e : Bool) (idx : BitVec 6) (arg : Word),
    (List.range 6).map (packetByte (frame e idx arg)) =
      (0x40#8 ||| idx.setWidth 8) :: be32 arg ++
        [if e = true ∨ idx = 0 ∨ idx = 8 then ((crc7 ((0x40#8 ||| idx.setWidth 8) :: be32 arg)).setWidth 8 <<< 1) ||| 1#8
          else 0xFF#8]) ∧
  crc7 [0x40, 0x00, 0x00, 0x00, 0x00] = 0x4A ∧
  crc7 [0x48, 0x00, 0x00, 0x01, 0xAA] = 0x43 ∧
  (∀ e : Bool, packetByte (frame e 0 0) 5 = 0x95 ∧ packetByte (frame e 8 0x1AA) 5 = 0x87)

/-- R87, R175: whenever a step sends the first byte of a packet, the packet is the framed command of the stage, with the
argument R87 assembles; ACMD23 and ACMD41 follow the poll of a CMD55; CMD59 is sent only when CRC_ENABLE is true. -/
def Obligations.ClosedCommandSet : Prop :=
  ∀ s t : State, s.Inv → turn s = .next t → t.seq.point = .cmdTx 0 →
    (∃ idx arg, t.commandOf = some (idx, arg) ∧ t.pkt = frame t.cfg.crcEnable idx arg ∧
      t.mosi = (0x40#8 ||| idx.setWidth 8) ∧ ∃ i, decode .cmdPacket (.packet t.pkt) = .ok i ∧ i.wf = true) ∧
    (t.seq.stage = .initOpCond → s.seq.stage = .initApp ∧ ∃ k, s.seq.point = .poll k) ∧
    (t.seq.stage = .preEraseCount → s.seq.stage = .preErasePrefix ∧ ∃ k, s.seq.point = .poll k) ∧
    (t.seq.stage = .initCrcen → t.cfg.crcEnable = true)

/-! ### CRC generators, status bytes, addresses, CSD -/

/-- R131, R134: the two generators bit by bit (R130, R133), their byte-wise table forms, and the values the rules give. -/
def Obligations.CrcByteWiseForms : Prop :=
  (∀ s : List Byte, crc7 s =
    (s.flatMap fun b => [7, 6, 5, 4, 3, 2, 1, 0].map b.getLsbD).foldl
      (fun (c : BitVec 7) d => if (d ^^ c.getLsbD 6) = true then (c <<< 1) ^^^ 0x09#7 else c <<< 1) 0) ∧
  (∀ s : List Byte, crc16 s =
    (s.flatMap fun b => [7, 6, 5, 4, 3, 2, 1, 0].map b.getLsbD).foldl
      (fun (c : BitVec 16) d => if (d ^^ c.getLsbD 15) = true then (c <<< 1) ^^^ 0x1021#16 else c <<< 1) 0) ∧
  (∀ s : List Byte, crc7 s = s.foldl (fun (c : BitVec 7) b => crc7 [(c.setWidth 8 <<< 1) ^^^ b]) 0) ∧
  (∀ s : List Byte, crc16 s = s.foldl (fun (c : BitVec 16) b => (c <<< 8) ^^^ crc16 [c.extractLsb' 8 8 ^^^ b]) 0) ∧
  crc7 [] = 0x00 ∧ crc7 [0x00] = 0x00 ∧ crc7 [0x01] = 0x09 ∧ crc7 [0x80] = 0x41 ∧ crc7 [0xFF] = 0x79 ∧
  crc7 [0x31, 0x32, 0x33, 0x34, 0x35, 0x36, 0x37, 0x38, 0x39] = 0x75 ∧
  crc16 [0x00] = 0x0000 ∧ crc16 [0x01] = 0x1021 ∧ crc16 [0x80] = 0x9188 ∧ crc16 [0xFF] = 0x1EF0 ∧
  crc16 [0x31, 0x32, 0x33, 0x34, 0x35, 0x36, 0x37, 0x38, 0x39] = 0x31C3

/-- R140: residue (and that it detects every wrong trailer), linearity, leading zeros, range. -/
def Obligations.CrcProperties : Prop :=
  (∀ m : List Byte, crc16 (m ++ be16 (crc16 m)) = 0) ∧
  (∀ (m : List Byte) (c : BitVec 16), crc16 (m ++ be16 c) = 0 ↔ c = crc16 m) ∧
  (∀ a b : List Byte, a.length = b.length →
    crc16 (List.zipWith (· ^^^ ·) a b) = crc16 a ^^^ crc16 b ∧ crc7 (List.zipWith (· ^^^ ·) a b) = crc7 a ^^^ crc7 b) ∧
  (∀ s : List Byte, crc16 (0x00 :: s) = crc16 s ∧ crc7 (0x00 :: s) = crc7 s) ∧
  crc16 (List.replicate 512 0x00) = 0x0000 ∧
  (∀ s : List Byte, (crc7 s).toNat < 0x80 ∧ (((crc7 s).setWidth 8 <<< 1) ||| 1#8).getLsbD 0 = true ∧
    ((((crc7 s).setWidth 8 <<< 1) ||| 1#8) = 0xFF#8 → crc7 s = 0x7F))

/-- R155, R156, R157: the two checks of a status byte and the mapping of its error bits, over all 256 bytes. -/
def Obligations.StatusByteChecks : Prop :=
  (∀ r : Byte, initCheck r =
    if 0x80 ≤ r.toNat then .timeout else if r = 0x00 ∨ r = 0x01 then .ok else mapErrBits r) ∧
  (∀ r : Byte, xferCheck r = if 0x80 ≤ r.toNat then .timeout else if r = 0x00 then .ok else mapErrBits r) ∧
  (∀ r : Byte, (r &&& 0x08 ≠ 0 → mapErrBits r = .commandCrcError) ∧
    (r &&& 0x08 = 0 ∧ r &&& 0x60 ≠ 0 → mapErrBits r = .parameterOutOfRange) ∧
    (r &&& 0x68 = 0 → mapErrBits r = .commandRejected)) ∧
  mapErrBits 0x48 = .commandCrcError ∧ mapErrBits 0x44 = .parameterOutOfRange ∧ mapErrBits 0x14 = .commandRejected ∧
  xferCheck 0x01 = .commandRejected

/-- R62, R63: the translation of a sector; what a transfer of a byte-addressed session accepts never wraps. -/
def Obligations.SectorTranslation : Prop :=
  (∀ s : Word, addrOf true s = s) ∧
  (∀ s : Word, (addrOf false s).toNat = s.toNat * 512 % 2 ^ 32) ∧
  (∀ s : State, s.preCheck s.transferCount = .ok → s.blockAddr = false →
    (addrOf s.blockAddr s.latSector).toNat = s.latSector.toNat * 512)

/-- R260-R266: the sector count of a CSD image, in arithmetic on its bytes. R271: the bytes the parser does not read never change
its result. -/
def Obligations.CsdParser : Prop :=
  (∀ c : List Byte,
     csdParse c =
       if (c.getD 0 0).toNat / 64 = 1 then
         if ((c.getD 7 0).toNat % 64 * 65536 + (c.getD 8 0).toNat * 256 + (c.getD 9 0).toNat + 1) * 1024 ≥ 2 ^ 32 then
           (.parameterOutOfRange, 0)
         else
           (.ok, BitVec.ofNat 32
             (((c.getD 7 0).toNat % 64 * 65536 + (c.getD 8 0).toNat * 256 + (c.getD 9 0).toNat + 1) * 1024))
       else if (c.getD 0 0).toNat / 64 = 0 then
         if (c.getD 9 0).toNat % 4 * 2 + (c.getD 10 0).toNat / 128 + (c.getD 5 0).toNat % 16 < 7 then
           (.parameterOutOfRange, 0)
         else
           (.ok, BitVec.ofNat 32
             (((c.getD 6 0).toNat % 4 * 1024 + (c.getD 7 0).toNat * 4 + (c.getD 8 0).toNat / 64 + 1) *
               2 ^ ((c.getD 9 0).toNat % 4 * 2 + (c.getD 10 0).toNat / 128 + (c.getD 5 0).toNat % 16 - 7)))
       else (.parameterOutOfRange, 0)) ∧
  (∀ c d : List Byte, c.getD 0 0 = d.getD 0 0 →
     (csdVersion c = 1 → (∀ k, k ∈ [7, 8, 9] → c.getD k 0 = d.getD k 0) → csdParse c = csdParse d) ∧
     (csdVersion c = 0 → (∀ k, k ∈ [5, 6, 7, 8, 9, 10] → c.getD k 0 = d.getD k 0) → csdParse c = csdParse d) ∧
     (csdVersion c = 2 ∨ csdVersion c = 3 → csdParse c = csdParse d))

/-- R66, R102: the five fields the parser reads, by CSD bit numbers. -/
def Obligations.CsdFieldBits : Prop :=
  ∀ c : List Byte,
    (∀ j, (csdVersion c).testBit j = (decide (j < 2) && csdBit c (126 + j))) ∧
    (∀ j, (csdSizeV2 c).testBit j = (decide (j < 22) && csdBit c (48 + j))) ∧
    (∀ j, (csdBlLen c).testBit j = (decide (j < 4) && csdBit c (80 + j))) ∧
    (∀ j, (csdSizeV1 c).testBit j = (decide (j < 12) && csdBit c (62 + j))) ∧
    (∀ j, (csdMult c).testBit j = (decide (j < 3) && csdBit c (47 + j)))

/-! ### Reset and the register window -/

/-- R50, R320: the reset table, from any state, whatever was running; HOSTBUF is unchanged and no byte is exchanged. -/
def Obligations.ResetTable : Prop :=
  ∀ (s : State) (r : List Input), s.inputs = .reset :: r →
    ∃ t, step s = .next t ∧
      t.opcode = 0 ∧ t.sector = 0 ∧ t.count = 0 ∧ t.len = 0 ∧ t.busy = false ∧ t.lifecycle = .uninit ∧
      t.blockAddr = false ∧ t.crcOn = false ∧ t.legacy = false ∧ t.scValid = false ∧ t.scValue = 0 ∧ t.cs = false ∧
      t.clkFast = false ∧ t.result = .ok ∧ t.value = 0 ∧ t.latOp = 0 ∧ t.latSector = 0 ∧ t.latCount = 0 ∧ t.latLen = 0 ∧
      t.csdReg = Vector.replicate 16 0 ∧ t.crc7r = 0 ∧ t.crc16r = 0 ∧ t.resp = 0 ∧ t.respx = 0 ∧ t.deadline = 0 ∧
      t.attempt = 0 ∧ t.blkIdx = 0 ∧ t.byteIdx = 0 ∧ t.firstErr = .ok ∧ t.mbOpen = false ∧ t.seq = Seq.idle ∧
      t.hostbuf = s.hostbuf ∧ t.miso = s.miso ∧ t.cfg = s.cfg ∧ t.cd = s.cd ∧ t.inputs = r

/-- R21-R30, R70: what a host read of the register window returns, and that it changes nothing else; host writes of the registers
other than `CTRL`, at any time; narrow accesses are refused. -/
def Obligations.HostReadsAndWrites : Prop :=
  (∀ (s : State) (r : List Input) (off : Nat), s.inputs = .read off :: r →
     ∃ v : Word, step s = .next { s with inputs := r, rdata := v } ∧
       (off = 0x00 → v.toNat = s.opcode.toNat) ∧ (off = 0x04 → v = s.sector) ∧ (off = 0x08 → v = s.count) ∧
       (off = 0x0C → v.toNat = s.len.toNat) ∧
       (off = 0x10 → v.getLsbD 0 = s.busy ∧ v.getLsbD 1 = s.cd ∧ v.extractLsb' 2 2 = s.lifecycle.code ∧
         v.getLsbD 4 = s.blockAddr ∧ v.getLsbD 5 = s.crcOn ∧ v.getLsbD 6 = s.legacy ∧ v.getLsbD 7 = s.cs ∧
         v.getLsbD 8 = s.clkFast ∧ v.getLsbD 9 = s.scValid ∧ v.extractLsb' 10 22 = 0) ∧
       (off = 0x14 → v.toNat = s.result.code.toNat) ∧ (off = 0x18 → v = s.value) ∧
       (off = 0x1C → v = if s.scValid then s.scValue else 0) ∧
       (off ∉ [0x00, 0x04, 0x08, 0x0C, 0x10, 0x14, 0x18, 0x1C] → v = 0)) ∧
  (∀ (s : State) (r : List Input) (off : Nat) (v : Word),
     (s.inputs = .write off v :: r → off ≠ 0 →
       step s = .next
         { s with
           inputs := r
           sector := if off = 0x04 then v else s.sector
           count := if off = 0x08 then v else s.count
           len := if off = 0x0C then v.extractLsb' 0 16 else s.len }) ∧
     (s.inputs = .narrow off :: r → step s = .refused .narrowAccess))

/-- R22, R31, R82, R83: a `CTRL` write to an idle block stores OPCODE, latches the request, raises BUSY and starts the
operation its bits [7:0] name; a write to a busy block is ignored entirely; a read returns OPCODE; OPCODE resets to 0. -/
def Obligations.CtrlWrite : Prop :=
  (∀ (s : State) (r : List Input), s.inputs = .read 0 :: r →
    step s = .next { s with inputs := r, rdata := 0#24 ++ s.opcode }) ∧
  State.reset.opcode = 0 ∧
  ∀ (s : State) (r : List Input) (v : Word), s.inputs = .write 0 v :: r →
    (s.busy = true → step s = .next { s with inputs := r }) ∧
    (s.busy = false →
      step s = .next
        { s with
          inputs := r
          opcode := v.extractLsb' 0 8
          latOp := v.extractLsb' 0 8
          latSector := s.sector
          latCount := s.count
          latLen := s.len
          busy := true
          seq :=
            ⟨([.reserved, .cardPresent, .initStart, .isBlockAddressed, .readBlock, .writeBlock, .readBlocks, .writeBlocks,
                .sectorCount, .teardownOp, .crc7, .crc16, .csdParse []] : List Stage).getD (v.extractLsb' 0 8).toNat .reserved,
              .start, true⟩ })

/-! ### One step -/

/-- R44, R101: the step decodes the item at its point and executes it. A host write of `CTRL` is the host operation its word
names. In the controller's step (from `u`: the inputs are empty, or their head is `run`) a received item is executed and the
next primitive follows in the same step; an item about to be sent is executed; elsewhere the sequencer advances and the next
primitive follows. An idle controller does nothing. -/
def Obligations.StepRunsDecodedInstruction : Prop :=
  (∀ (s : State) (v : Word) (r : List Input) (i : Instr), s.inputs = .write 0 v :: r →
    decode .ctrlWrite (.ctrl v) = .ok i → step s = exec i { s with inputs := r }) ∧
  (∀ s u : State, (s.inputs = [] ∧ u = s ∨ ∃ r, s.inputs = .run :: r ∧ u = { s with inputs := r }) →
    (u.busy = false → step s = .next u) ∧
    (∀ (c : Ctx) (w : Code) (i : Instr), u.busy = true → u.seq.done = true → received u = some (c, w) →
      decode c w = .ok i → step s = andThen (exec i u) issue) ∧
    (∀ (c : Ctx) (w : Code) (i : Instr), u.busy = true → u.seq.done = false → toSend u = some (c, w) →
      decode c w = .ok i → step s = exec i u) ∧
    (u.busy = true → u.seq.done = true → received u = none → step s = issue (advance u)))

/-! ### What each instruction does -/

/-- R22, R31, R82: each of the twelve host operations, executed while the block is idle, answers the state in which it has
been latched and started, everything else unchanged; executed while the block is busy it changes nothing. -/
def Obligations.HostOperationsStart : Prop :=
  ∀ (i : Instr) (op : BitVec 8) (st : Stage) (s : State),
    (i, op, st) ∈ ([(.cardPresent, 0x01, .cardPresent), (.initCard, 0x02, .initStart),
      (.isBlockAddressed, 0x03, .isBlockAddressed), (.readBlock, 0x04, .readBlock), (.writeBlock, 0x05, .writeBlock),
      (.readBlocks, 0x06, .readBlocks), (.writeBlocks, 0x07, .writeBlocks), (.sectorCount, 0x08, .sectorCount),
      (.teardown, 0x09, .teardownOp), (.crc7, 0x0A, .crc7), (.crc16, 0x0B, .crc16),
      (.csdParse, 0x0C, .csdParse [])] : List (Instr × BitVec 8 × Stage)) →
    (s.busy = false →
      exec i s = .next
        { s with
          opcode := op
          latOp := op
          latSector := s.sector
          latCount := s.count
          latLen := s.len
          busy := true
          seq := ⟨st, .start, true⟩ }) ∧
    (s.busy = true → exec i s = .next s)

/-- R84, R150, R159-R172: each of the fifteen command packets (CMD0, CMD8, CMD9, CMD12, CMD16, CMD17, CMD18, CMD24, CMD25,
CMD55, CMD58, CMD59, ACMD23, ACMD41 and its legacy form), executed, answers the state in which its word is loaded and its
first byte has been exchanged: the byte 01 and the index on MOSI, the card's byte received; everything else unchanged. That it
keeps the stage that sends it is the model's reading (log entry 14). -/
def Obligations.CommandPacketsStart : Prop :=
  ∀ (i : Instr) (w : BitVec 48) (s : State), encode i = .packet w →
    exec i s = .next
      { s with
        pkt := w
        mosi := w.extractLsb' 40 8
        rx := s.nextMiso
        miso := s.miso.tail
        draws := s.drawsAfterXchg
        xchgs := s.xchgs + 1
        seq := ⟨s.seq.stage, .cmdTx 0, true⟩ }

/-- R93, R94, R95, R100: the three tokens and the fill byte, executed as the item about to be sent, answer the state in which
that byte has been exchanged; everything else unchanged. -/
def Obligations.TokensAndFillSent : Prop :=
  ∀ (i : Instr) (b : Byte) (s : State),
    (i, b) ∈ ([(.tokenStartSingle, 0xFE), (.tokenStartMultiWrite, 0xFC), (.tokenStopTran, 0xFD), (.fill, 0xFF)] :
      List (Instr × Byte)) →
    s.seq.done = false →
    exec i s = .next
      { s with
        mosi := b
        rx := s.nextMiso
        miso := s.miso.tail
        draws := s.drawsAfterXchg
        xchgs := s.xchgs + 1
        seq := ⟨s.seq.stage, s.seq.point, true⟩ }

/-- R101, R222, R287: the start token ends the token wait and the frame starts at byte 0 (with a fresh CRC16 if it is
checked); a read-error token ends the wait with its error, which is never retried: READ_BLOCK and SECTOR_COUNT complete with
it, READ_BLOCKS records it and stops the transmission. Everything else is unchanged.
R99, R101, R152, R222, R224: BUSY in the busy wait has the deadline checked; the idle byte ends the busy wait, has the
token wait's deadline checked, and goes on polling up to the eighth poll.
That CRC16R restarts at the start token while CRC_ON = 1, and is left alone else, is the model's reading (log entry 15). -/
def Obligations.ReceivedTokensAndBusBytes : Prop :=
  (∀ (st : Stage) (s : State), s.seq = ⟨st, .tokWait, true⟩ →
     exec .tokenStartSingle s = .next
       { s with
         byteIdx := 0
         crc16r := if s.crcOn then 0 else s.crc16r
         seq := ⟨st, .dataRx, false⟩ } ∧
     ∀ e : BitVec 4,
       (st = .readBlockData ∨ st = .sectorCountData →
         exec (.tokenReadError e) s = .next
           { s with
             seq := ⟨st, .finish (if e.getLsbD 3 then .parameterOutOfRange else .cardInternalError) 0, false⟩ }) ∧
       (st = .readBlocksData →
         exec (.tokenReadError e) s = .next
           (sendCommand .readBlocksStop 12 0
             { s with firstErr := if e.getLsbD 3 then .parameterOutOfRange else .cardInternalError }))) ∧
  (∀ (st : Stage) (s : State),
     (s.seq = ⟨st, .busyWait, true⟩ →
       exec .busy s = .next { s with seq := ⟨st, .busyCheck, false⟩ } ∧ exec .fill s = .next (afterBusy .ok s)) ∧
     (s.seq = ⟨st, .tokWait, true⟩ → exec .fill s = .next { s with seq := ⟨st, .tokCheck, false⟩ }) ∧
     (∀ k, k < 8 → s.seq = ⟨st, .poll k, true⟩ → exec .fill s = .next { s with seq := ⟨st, .poll (k + 1), false⟩ }))

/-- R97, R225, R226: the three data responses, whatever bits [7:5], and, over all 256 bytes, what a received one does: the result is
recorded and the busy wait always follows. -/
def Obligations.DataResponseCodes : Prop :=
  (∀ (i : Instr) (x : BitVec 3) (e : Err) (s : State),
     (i, e) ∈ ([(.drespAccepted x, .ok), (.drespCrcError x, .dataCrcError), (.drespWriteError x, .writeRejected)] :
       List (Instr × Err)) →
     (s.seq = ⟨.writeBlockData, .dresp, true⟩ →
       exec i s = .next { s with seq := ⟨.writeBlockBusy e, .busyDeadline, false⟩ }) ∧
     (s.seq = ⟨.writeBlocksData, .dresp, true⟩ →
       exec i s = .next { s with seq := ⟨.writeBlocksBusy e, .busyDeadline, false⟩ })) ∧
  (∀ (e : Err) (s : State), s.seq.done = true → s.seq.point = .dresp →
     e = (if s.rx &&& 0x1F = 0x05 then .ok else if s.rx &&& 0x1F = 0x0B then .dataCrcError
       else if s.rx &&& 0x1F = 0x0D then .writeRejected else .unexpectedDataToken) →
     (s.seq.stage = .writeBlockData → retire s = .next (s.enter (.writeBlockBusy e) .busyDeadline)) ∧
     (s.seq.stage = .writeBlocksData → retire s = .next (s.enter (.writeBlocksBusy e) .busyDeadline)))

/-- R155, R185, R186, R188, R190, R192: the status byte of the initialization's commands with a one-byte response; `RESP`
takes it. Reset accepts only 0x01 (LIFECYCLE becomes IDLE and CMD8 follows), else tries again up to GO_IDLE_ATTEMPTS and then
is torn down with TIMEOUT. CrcEnable never raises. CMD55, ACMD41 and CMD16 raise the mapped error of any error bit.
R154: the status byte of CMD8 and CMD58, whatever its error bits, is followed by the four trailing bytes. -/
def Obligations.StatusByteInInit : Prop :=
  (∀ (p a e c l r i : Bool) (k : Nat) (s u : State) (b : Byte), b = statusByte p a e c l r i → u = { s with resp := b } →
     (s.seq = ⟨.initReset, .poll k, true⟩ →
       exec (.resp1 p a e c l r i) s = .next
         (if b = 0x01 then sendCommand .initVcheck 8 0x1AA { u with lifecycle := .idle }
         else if s.attempt < s.cfg.goIdleAttempts then sendCommand .initReset 0 0 { u with attempt := s.attempt + 1 }
         else beginTeardown (.complete .timeout) u)) ∧
     (s.seq = ⟨.initCrcen, .poll k, true⟩ →
       exec (.resp1 p a e c l r i) s = .next
         (sendCommand .initOcr 58 0 { u with crcOn := decide (b = 0x00 ∨ b = 0x01) })) ∧
     (s.seq = ⟨.initApp, .poll k, true⟩ →
       exec (.resp1 p a e c l r i) s = .next
         (if b = 0x00 ∨ b = 0x01 then sendCommand .initOpCond 41 (if s.legacy then 0 else 0x40000000) u
         else beginTeardown (.complete (mapErrBits b)) u)) ∧
     (s.seq = ⟨.initOpCond, .poll k, true⟩ →
       exec (.resp1 p a e c l r i) s = .next
         (if b = 0x00 then sendCommand .initCap 58 0 u
         else if b = 0x01 then u.due .opCheck
         else beginTeardown (.complete (mapErrBits b)) u)) ∧
     (s.seq = ⟨.initBlklen, .poll k, true⟩ →
       exec (.resp1 p a e c l r i) s = .next
         (if b = 0x00 ∨ b = 0x01 then u.enter .initReady .clkFast else beginTeardown (.complete (mapErrBits b)) u))) ∧
  (∀ (p a e c l r i : Bool) (k : Nat) (st : Stage) (s : State), s.seq = ⟨st, .poll k, true⟩ →
     st = .initVcheck ∨ st = .initOcr ∨ st = .initCap →
     exec (.resp1 p a e c l r i) s = .next
       { s with resp := statusByte p a e c l r i, seq := ⟨st, .ext 1 0, false⟩ })

/-- R156, R228, R230, R232, R234, R269: the status byte of CMD17, CMD24, CMD18, CMD25 and CMD9: 0x00 goes on to the data; any
other is the mapped error, which CMD17 may try again, CMD24 and CMD9 complete with, and CMD18 and CMD25 terminate with.
R231, R233: CMD12's is recorded and the busy wait always follows; the pre-erase prefix leads to ACMD23 only if it was accepted,
and neither of the hint's status bytes can be an error.
R45: MB_OPEN is 1 from the transmission of CMD25 on. That it rises with the packet's first byte, in the step that follows the
pre-erase hint, is the model's reading (log entry 11); R232's own assignment stands after the status check. -/
def Obligations.StatusByteInTransfer : Prop :=
  (∀ (p a e c l r i : Bool) (k : Nat) (s u : State) (b : Byte), b = statusByte p a e c l r i → u = { s with resp := b } →
     (s.seq = ⟨.readBlockCmd, .poll k, true⟩ →
       exec (.resp1 p a e c l r i) s = .next
         (if b = 0x00 then u.enter .readBlockData .tokDeadline
         else if mapErrBits b ≠ .parameterOutOfRange ∧ s.attempt < s.cfg.readAttempts then
           sendCommand .readBlockCmd 17 (addrOf s.blockAddr s.latSector) { u with attempt := s.attempt + 1 }
         else u.due (.finish (mapErrBits b) 0))) ∧
     (s.seq = ⟨.writeBlockCmd, .poll k, true⟩ →
       exec (.resp1 p a e c l r i) s = .next
         (if b = 0x00 then u.enter .writeBlockData .pad else u.due (.finish (mapErrBits b) 0))) ∧
     (s.seq = ⟨.sectorCountCmd, .poll k, true⟩ →
       exec (.resp1 p a e c l r i) s = .next
         (if b = 0x00 then u.enter .sectorCountData .tokDeadline else u.due (.finish (mapErrBits b) 0))) ∧
     (s.seq = ⟨.readBlocksCmd, .poll k, true⟩ →
       exec (.resp1 p a e c l r i) s = .next
         (if b = 0x00 then { u with firstErr := .ok, mbOpen := true, blkIdx := 0 }.enter .readBlocksData .tokDeadline
         else sendCommand .readBlocksStop 12 0 { u with firstErr := mapErrBits b, mbOpen := true })) ∧
     (s.seq = ⟨.writeBlocksCmd, .poll k, true⟩ →
       exec (.resp1 p a e c l r i) s = .next
         (if b = 0x00 then { u with firstErr := .ok, mbOpen := true, blkIdx := 0 }.enter .writeBlocksData .pad
         else { u with firstErr := mapErrBits b, mbOpen := true }.enter .writeBlocksStop (.tokTx 0xFD)))) ∧
  (∀ (p a e c l r i : Bool) (k : Nat) (s u : State) (b : Byte), b = statusByte p a e c l r i → u = { s with resp := b } →
     (s.seq = ⟨.readBlocksStop, .poll k, true⟩ →
       exec (.resp1 p a e c l r i) s = .next
         (u.enter (.readBlocksBusy (if b = 0x00 then .ok else mapErrBits b)) .busyDeadline)) ∧
     (s.seq = ⟨.preErasePrefix, .poll k, true⟩ →
       exec (.resp1 p a e c l r i) s = .next
         (if b = 0x00 ∨ b = 0x01 then sendCommand .preEraseCount 23 (s.latCount &&& 0x007FFFFF) u
         else sendCommand .writeBlocksCmd 25 (addrOf s.blockAddr s.latSector) { u with mbOpen := true })) ∧
     (s.seq = ⟨.preEraseCount, .poll k, true⟩ →
       exec (.resp1 p a e c l r i) s = .next (sendCommand .writeBlocksCmd 25 (addrOf s.blockAddr s.latSector) { u with mbOpen := true })))

/-- R152, R155, R156, R185, R188, R231, R233: after the eighth poll without a status byte the command has no response: Reset
counts an attempt, CrcEnable and the pre-erase hint go on, every other command is a TIMEOUT.
R45: MB_OPEN is 1 from the transmission of CMD25 on. That it rises with the packet's first byte, in the step that follows the
pre-erase hint, is the model's reading (log entry 11), not R232's or R233's. -/
def Obligations.NoResponse : Prop :=
  ∀ (s u : State), s.seq.done = true → s.seq.point = .poll 8 → s.rx.getLsbD 7 = true → u = { s with resp := s.rx } →
    (s.seq.stage = .initReset →
      retire s = .next (if s.attempt < s.cfg.goIdleAttempts then sendCommand .initReset 0 0 { u with attempt := s.attempt + 1 }
        else beginTeardown (.complete .timeout) u)) ∧
    (s.seq.stage = .initCrcen → retire s = .next (sendCommand .initOcr 58 0 { u with crcOn := false })) ∧
    (s.seq.stage ∈ [.initVcheck, .initOcr, .initApp, .initOpCond, .initCap, .initBlklen] →
      retire s = .next (beginTeardown (.complete .timeout) u)) ∧
    (s.seq.stage = .readBlockCmd →
      retire s = .next (if s.attempt < s.cfg.readAttempts then
          sendCommand .readBlockCmd 17 (addrOf s.blockAddr s.latSector) { u with attempt := s.attempt + 1 }
        else u.due (.finish .timeout 0))) ∧
    (s.seq.stage = .writeBlockCmd ∨ s.seq.stage = .sectorCountCmd → retire s = .next (u.due (.finish .timeout 0))) ∧
    (s.seq.stage = .readBlocksCmd →
      retire s = .next (sendCommand .readBlocksStop 12 0 { u with firstErr := .timeout, mbOpen := true })) ∧
    (s.seq.stage = .writeBlocksCmd →
      retire s = .next ({ u with firstErr := .timeout, mbOpen := true }.enter .writeBlocksStop (.tokTx 0xFD))) ∧
    (s.seq.stage = .readBlocksStop → retire s = .next (u.enter (.readBlocksBusy .timeout) .busyDeadline)) ∧
    (s.seq.stage = .preErasePrefix ∨ s.seq.stage = .preEraseCount →
      retire s = .next (sendCommand .writeBlocksCmd 25 (addrOf s.blockAddr s.latSector) { u with mbOpen := true }))

/-- R189, R191: CMD58's response. OcrCheck needs the voltage bit 20 and starts OpCondWait; CapacityCheck takes BLOCK_ADDR from
bit 30 and sets the block length of a byte-addressed card. An error bit of the status byte tears the session down. -/
def Obligations.OcrResponse : Prop :=
  ∀ (status : BitVec 7) (ocr : Word) (x : Word) (s u : State), u = { s with resp := 0#1 ++ status, respx := ocr } →
    (s.seq = ⟨.initOcr, .ext 4 x, true⟩ →
      exec (.resp3 status ocr) s = .next
        (if status ≠ 0 ∧ status ≠ 1 then beginTeardown (.complete (mapErrBits (0#1 ++ status))) u
        else if ocr.getLsbD 20 = false then beginTeardown (.complete .commandRejected) u
        else u.enter .initApp .opDeadline)) ∧
    (s.seq = ⟨.initCap, .ext 4 x, true⟩ →
      exec (.resp3 status ocr) s = .next
        (if status ≠ 0 ∧ status ≠ 1 then beginTeardown (.complete (mapErrBits (0#1 ++ status))) u
        else if ocr.getLsbD 30 then { u with blockAddr := true }.enter .initReady .clkFast
        else sendCommand .initBlklen 16 512 { u with blockAddr := false }))

/-- R187, R188, R287: CMD8's response, in the rule's order: the illegal-command bit makes a legacy card, any other error bit
but idle is fatal, an echo other than 0x1AA makes a legacy card. CRC enabling follows if configured, else OcrCheck. -/
def Obligations.InterfaceConditionResponse : Prop :=
  ∀ (status : BitVec 7) (n : BitVec 4) (z : BitVec 16) (v : BitVec 4) (k : BitVec 8) (x : Word) (s u : State),
    s.seq = ⟨.initVcheck, .ext 4 x, true⟩ → u = { s with resp := 0#1 ++ status, respx := n ++ z ++ v ++ k } →
    exec (.resp7 status n z v k) s = .next
      (if status.getLsbD 2 = false ∧ status &&& 0x7A ≠ 0 then beginTeardown (.complete (mapErrBits (0#1 ++ status))) u
      else if s.cfg.crcEnable then
        sendCommand .initCrcen 59 1
          { u with legacy := decide (status.getLsbD 2 = true ∨ v ≠ 1 ∨ k ≠ 0xAA) }
      else
        sendCommand .initOcr 58 0
          { u with legacy := decide (status.getLsbD 2 = true ∨ v ≠ 1 ∨ k ≠ 0xAA), crcOn := false })

/-! ### The engine's loops, over every received byte -/

/-- R152: the poll, over all 256 bytes: it begins with poll 1 after the packet (after the gap for CMD12), each poll sends 0xFF,
and the first byte with bit 7 clear, or the eighth, is returned (`pollReturns`); any other is polled again. A returned byte with
bit 7 set is a `TIMEOUT` for both checks. R151, R154: what is returned goes to `RESP`, and the trailing bytes follow if there
are any. -/
def Obligations.PollProcedure : Prop :=
  (∀ s : State, s.seq.done = true →
    (s.seq.point = .cmdTx 5 → s.seq.stage ≠ .readBlocksStop → retire s = .next (s.due (.poll 1))) ∧
    (s.seq.point = .stopGap → retire s = .next (s.due (.poll 1)))) ∧
  (∀ (k : Nat) (s : State), s.seq.done = false → s.seq.point = .poll k → issue s = .next (xchg 0xFF s)) ∧
  (∀ (k : Nat) (s : State), s.seq.done = true → s.seq.point = .poll k →
    retire s = .next
      (if s.rx.getLsbD 7 = false ∨ 8 ≤ k then pollReturns s.rx s else s.due (.poll (k + 1)))) ∧
  (∀ (r : Byte) (s : State), pollReturns r s =
    if r.getLsbD 7 = false ∧ s.seq.stage ∈ [.initVcheck, .initOcr, .initCap] then { s with resp := r }.due (.ext 1 0)
    else afterCommand { s with resp := r }) ∧
  (∀ r : Byte, r.getLsbD 7 = true → initCheck r = .timeout ∧ xferCheck r = .timeout)

/-- R222: the token wait, over all 256 bytes; `afterFrame e` is the return of `e` to the caller. The deadline is computed once.
That CRC16R restarts at the start token while CRC_ON = 1, and is left alone else, is the model's reading (log entry 15), not
R222's. -/
def Obligations.TokenWaitProcedure : Prop :=
  (∀ s : State, s.seq.done = false →
    (s.seq.point = .tokWait → issue s = .next (xchg 0xFF s)) ∧
    (s.seq.point = .tokDeadline ∨ s.seq.point = .tokCheck → issue s = .next (sampleNow s))) ∧
  (∀ s : State, s.seq.done = true →
    (s.seq.point = .tokDeadline → retire s = .next ({ s with deadline := s.tval + s.cfg.tToken }.due .tokWait)) ∧
    (s.seq.point = .tokWait →
      retire s = .next
        (if s.rx = 0xFE then { s with byteIdx := 0, crc16r := if s.crcOn then 0 else s.crc16r }.due .dataRx
        else if s.rx = 0xFF then s.due .tokCheck
        else if s.rx &&& 0xF0 = 0 ∧ s.rx ≠ 0 then
          afterFrame (if s.rx.getLsbD 3 then .parameterOutOfRange else .cardInternalError) s
        else afterFrame .unexpectedDataToken s)) ∧
    (s.seq.point = .tokCheck →
      retire s = .next (if s.tval ≥ s.deadline then afterFrame .timeout s else s.due .tokWait)))

/-- R224: the busy wait, over all 256 bytes; `afterBusy e` is the return of `e` to the caller. R190: OpCondWait computes its
deadline once, before the first CMD55, and checks it once per iteration, after ACMD41. -/
def Obligations.DeadlineProcedures : Prop :=
  (∀ s : State, s.seq.done = false →
     (s.seq.point = .busyWait → issue s = .next (xchg 0xFF s)) ∧
     (s.seq.point = .busyDeadline ∨ s.seq.point = .busyCheck → issue s = .next (sampleNow s))) ∧
  (∀ s : State, s.seq.done = true →
     (s.seq.point = .busyDeadline → retire s = .next ({ s with deadline := s.tval + s.cfg.tBusy }.due .busyWait)) ∧
     (s.seq.point = .busyWait → retire s = .next (if s.rx = 0xFF then afterBusy .ok s else s.due .busyCheck)) ∧
     (s.seq.point = .busyCheck →
       retire s = .next (if s.tval ≥ s.deadline then afterBusy .timeout s else s.due .busyWait))) ∧
  (∀ s : State, s.seq.done = true →
     (s.seq.point = .opDeadline → retire s = .next (sendCommand .initApp 55 0 { s with deadline := s.tval + s.cfg.tOpcond })) ∧
     (s.seq.point = .opCheck →
       retire s = .next (if s.tval ≥ s.deadline then beginTeardown (.complete .timeout) s else sendCommand .initApp 55 0 s)))

/-- R227, R228, R230, R268: what the reading operations do with the result of a frame: READ_BLOCK tries again after a
retryable error while attempts are left; READ_BLOCKS goes on to the next block, or terminates with the first error;
SECTOR_COUNT parses CSDREG and fills the cache on success. -/
def Obligations.FrameResultHandled : Prop :=
  ∀ (e : Err) (s : State),
    (s.seq.stage = .readBlockData →
      afterFrame e s =
        if e = .ok then s.due (.finish .ok 0)
        else if e ∈ [.timeout, .dataCrcError, .commandRejected, .commandCrcError] ∧ s.attempt < s.cfg.readAttempts then
          sendCommand .readBlockCmd 17 (addrOf s.blockAddr s.latSector) { s with attempt := s.attempt + 1 }
        else s.due (.finish e 0)) ∧
    (s.seq.stage = .readBlocksData →
      afterFrame e s =
        if e = .ok then
          if s.blkIdx + 1 < s.latCount.toNat then { s with blkIdx := s.blkIdx + 1 }.due .tokDeadline
          else sendCommand .readBlocksStop 12 0 s
        else sendCommand .readBlocksStop 12 0 { s with firstErr := e }) ∧
    (s.seq.stage = .sectorCountData →
      afterFrame e s =
        if e ≠ Err.ok then s.due (.finish e 0)
        else if (csdParse s.csdReg.toList).1 = Err.ok then
          { s with scValue := (csdParse s.csdReg.toList).2, scValid := true }.due
            (.finish .ok (csdParse s.csdReg.toList).2)
        else s.due (.finish (csdParse s.csdReg.toList).1 0))

/-- R225, R229, R230, R232, R235, R288: what the busy wait's callers do with its result: the first error in time wins, a block
that was accepted is followed by the next one, and the terminations complete with MB_OPEN cleared.
R234: the termination of a multi-block write: the stop token 0xFD, one exchange of 0xFF whose received byte is discarded, then
the busy wait, beginning with its deadline. -/
def Obligations.BusyResultHandled : Prop :=
  (∀ (x : Byte) (s : State),
    (s.seq = ⟨.writeBlocksStop, .tokTx 0xFD, false⟩ → issue s = .next (xchg 0xFD s)) ∧
    (s.seq = ⟨.writeBlocksStop, .tokTx x, true⟩ → retire s = .next (s.due .stopByte)) ∧
    (s.seq = ⟨.writeBlocksStop, .stopByte, false⟩ → issue s = .next (xchg 0xFF s)) ∧
    (s.seq = ⟨.writeBlocksStop, .stopByte, true⟩ → retire s = .next (s.due .busyDeadline)) ∧
    (s.busy = true → s.seq = ⟨.writeBlocksStop, .tokTx x, true⟩ → ∃ t u, turn s = .next t ∧ t.mosi = 0xFF ∧
      t.xchgs = s.xchgs + 1 ∧ t.seq = ⟨.writeBlocksStop, .stopByte, true⟩ ∧ turn t = .next u ∧
      u.seq = ⟨.writeBlocksStop, .busyDeadline, true⟩ ∧ t.noExchange u)) ∧
  ∀ (eb e : Err) (s : State),
    (s.seq.stage = .writeBlockBusy e →
      afterBusy eb s = s.due (.finish (if e ≠ Err.ok then e else eb) 0)) ∧
    (s.seq.stage = .writeBlocksBusy e →
      afterBusy eb s =
        if e = .ok ∧ eb = .ok then
          if s.blkIdx + 1 < s.latCount.toNat then { s with blkIdx := s.blkIdx + 1 }.enter .writeBlocksData .pad
          else s.enter .writeBlocksStop (.tokTx 0xFD)
        else { s with firstErr := if e ≠ Err.ok then e else eb }.enter .writeBlocksStop (.tokTx 0xFD)) ∧
    (s.seq.stage = .readBlocksBusy e →
      afterBusy eb s =
        { s with mbOpen := false }.due
          (.finish (if s.firstErr ≠ Err.ok then s.firstErr else if e ≠ Err.ok then e else eb) 0)) ∧
    (s.seq.stage = .writeBlocksStop →
      afterBusy eb s = { s with mbOpen := false }.due (.finish (if s.firstErr ≠ Err.ok then s.firstErr else eb) 0))

/-- R100, R120, R123: the primitive of a due position. Wherever the block only receives it exchanges 0xFF; a packet byte, a
payload byte or a CRC byte is exchanged where it is due; the deadlines sample the time input.
R123: `Now()` returns the exchanges since reset in the reference time base; in any other it never goes back. -/
def Obligations.DuePrimitivesAndTime : Prop :=
  (∀ s : State, s.seq.done = false →
     (s.seq.point ∈ ([.stopGap, .tokWait, .dataRx, .crcHi, .pad, .dresp, .busyWait, .stopByte] : List Point) ∨
       (∃ k, s.seq.point = .dummy k ∨ s.seq.point = .poll k) ∨ (∃ k x, s.seq.point = .ext k x) ∨
       (∃ h, s.seq.point = .crcLo h) → issue s = .next (xchg 0xFF s)) ∧
     (∀ k, s.seq.point = .cmdTx (k + 1) → issue s = .next (xchg (packetByte s.pkt (k + 1)) s)) ∧
     (s.seq.point = .dataTx → issue s = .next (xchg s.mval s)) ∧
     (s.seq.point = .crcTxHi →
       issue s = .next (xchg (if s.crcOn then s.crc16r.extractLsb' 8 8 else 0xFF) s)) ∧
     (s.seq.point = .crcTxLo →
       issue s = .next (xchg (if s.crcOn then s.crc16r.extractLsb' 0 8 else 0xFF) s)) ∧
     (s.seq.point ∈ ([.opDeadline, .opCheck, .tokDeadline, .tokCheck, .busyDeadline, .busyCheck] : List Point) →
       issue s = .next (sampleNow s))) ∧
  (∀ s : State,
     (s.cfg.timeBase = .perExchange → sampleNow s = { s with tval := s.xchgs, seq := ⟨s.seq.stage, s.seq.point, true⟩ }) ∧
     (s.cfg.timeBase = .platform → s.now ≤ (sampleNow s).tval ∧ (sampleNow s).now = (sampleNow s).tval))

/-! ### Completion, preconditions, session operations -/

/-- R282, R45: the completion step. RESULT takes the code, VALUE the value or 0, BUSY falls, SEQ is IDLE; the working registers
are left unspecified (any values), everything else is unchanged.
R280: the result codes; 10-15 are never produced. -/
def Obligations.CompletionAndCodes : Prop :=
  (∀ (st : Stage) (e : Err) (v : Word) (s : State), s.seq = ⟨st, .finish e v, false⟩ →
     ∃ (dl at' bk by' : Nat) (fe : Err) (dr : Nat),
       issue s = .next
         { s with
           result := e
           value := if e = .ok then v else 0
           busy := false
           seq := Seq.idle
           deadline := dl
           attempt := at'
           blkIdx := bk
           byteIdx := by'
           firstErr := fe
           draws := dr }) ∧
  (([.ok, .noCard, .timeout, .commandRejected, .commandCrcError, .dataCrcError, .unexpectedDataToken, .writeRejected,
       .cardInternalError, .parameterOutOfRange] : List Err).map Err.code = [0, 1, 2, 3, 4, 5, 6, 7, 8, 9] ∧
   (∀ e : Err, e.code.toNat ≤ 9))

/-- R83, R199: the host writes a reserved opcode, or IS_BLOCK_ADDRESSED, to `CTRL` of an idle block: the operation performs no
primitive and completes in its first step; no session state, output or buffer byte changes. -/
def Obligations.OneStepOperations : Prop :=
  ∀ (s : State) (r : List Input) (v : Word), s.inputs = .write 0 v :: r → s.busy = false →
    (v &&& 0xFF = 0 ∨ 0x0D ≤ (v &&& 0xFF).toNat →
      ∃ u t, step s = .next u ∧ u.busy = true ∧ turn u = .next t ∧ t.completed .parameterOutOfRange 0 ∧ s.sameSession t ∧
        s.noExchange t ∧ t.hostbuf = s.hostbuf ∧ t.pval = s.pval ∧ t.tval = s.tval ∧ t.mval = s.mval) ∧
    (v &&& 0xFF = 3 →
      ∃ u t, step s = .next u ∧ u.busy = true ∧ turn u = .next t ∧
        t.completed .ok (if s.lifecycle = .ready ∧ s.blockAddr = true then 1 else 0) ∧ s.sameSession t ∧
        s.noExchange t ∧ t.hostbuf = s.hostbuf ∧ t.pval = s.pval ∧ t.tval = s.tval ∧ t.mval = s.mval ∧
        t.crc7r = s.crc7r ∧ t.crc16r = s.crc16r ∧ t.resp = s.resp ∧ t.respx = s.respx)

/-- R198: the host writes CARD_PRESENT to `CTRL` of an idle block: the presence is returned and never fails; when the card is
absent the session is torn down.
R200: TEARDOWN deasserts chip select, then makes the clock slow, whatever they were, then clears the session, and completes with
OK and 0; no byte is exchanged. -/
def Obligations.PresenceAndTeardown : Prop :=
  ∀ (s : State) (r : List Input) (v : Word), s.inputs = .write 0 v :: r → s.busy = false →
    (v &&& 0xFF = 1 → ∃ u, step s = .next u ∧ u.busy = true ∧
      (s.cd = true → ∃ t, turns 2 u = .next t ∧ t.completed .ok 1 ∧ s.sameSession t ∧ s.noExchange t ∧
        t.hostbuf = s.hostbuf) ∧
      (s.cd = false → ∃ t, turns 4 u = .next t ∧ t.completed .ok 0 ∧ t.noSession ∧ s.noExchange t ∧ t.hostbuf = s.hostbuf ∧
        t.csdReg = s.csdReg)) ∧
    (v &&& 0xFF = 9 → ∃ u a b t, step s = .next u ∧ u.busy = true ∧
      turn u = .next a ∧ a.cs = false ∧ a.clkFast = s.clkFast ∧ a.lifecycle = s.lifecycle ∧
      turn a = .next b ∧ b.cs = false ∧ b.clkFast = false ∧ b.lifecycle = s.lifecycle ∧
      turn b = .next t ∧ t.completed .ok 0 ∧ t.noSession ∧ s.noExchange t ∧ t.hostbuf = s.hostbuf ∧
      t.csdReg = s.csdReg ∧ u.sameHostSide t)

/-- R181-R184: INITIALIZE begins by tearing down, whatever the session was. Without a card it completes with NO_CARD and has
exchanged no byte. With one, it sends ten bytes of 0xFF, each with chip select deasserted and the clock slow; after 14 steps it
has asserted chip select, and the next step sends CMD0 (R185). -/
def Obligations.InitializeBegins : Prop :=
  ∀ s : State, s.busy = true → s.seq = ⟨.initStart, .start, true⟩ →
    (s.cd = false → ∃ t, turns 6 s = .next t ∧ t.completed .noCard 0 ∧ t.noSession ∧ s.noExchange t) ∧
    (s.cd = true → ∀ k, 1 ≤ k → k ≤ 10 → ∃ u, turns (3 + k) s = .next u ∧ u.seq = ⟨.initStart, .dummy k, true⟩ ∧
      u.cs = false ∧ u.clkFast = false ∧ u.mosi = 0xFF ∧ u.xchgs = s.xchgs + k) ∧
    (s.cd = true → ∃ t,
      turns 14 s = .next t ∧ t.seq = ⟨.initStart, .csAssert, true⟩ ∧ t.busy = true ∧ t.lifecycle = .uninit ∧
        t.blockAddr = false ∧ t.crcOn = false ∧ t.legacy = false ∧ t.scValid = false ∧ t.scValue = 0 ∧ t.cs = true ∧
        t.clkFast = false ∧ t.xchgs = s.xchgs + 10 ∧ t.miso = s.miso.drop 10 ∧
        sentIn 14 s = List.replicate 10 0xFF ∧
        ∃ w, turn t = .next w ∧ w.seq = ⟨.initReset, .cmdTx 0, true⟩ ∧ w.attempt = 1 ∧ w.mosi = 0x40 ∧
          w.pkt = frame s.cfg.crcEnable 0 0)

/-- R193: the Ready step: the clock becomes fast, LIFECYCLE becomes READY, and INITIALIZE completes with OK and 0.
R194, R200, R285: an error raised in INITIALIZE tears the session down and then completes with that error. -/
def Obligations.InitializeEnds : Prop :=
  (∀ s : State, s.busy = true → s.seq = ⟨.initReady, .clkFast, false⟩ →
     ∃ t, turns 2 s = .next t ∧ t.completed .ok 0 ∧ t.clkFast = true ∧ t.lifecycle = .ready ∧ t.cs = s.cs ∧
       t.blockAddr = s.blockAddr ∧ t.crcOn = s.crcOn ∧ t.legacy = s.legacy ∧ s.noExchange t ∧ t.hostbuf = s.hostbuf) ∧
  (∀ (e : Err) (s u : State), s.busy = true → retire s = .next (beginTeardown (.complete e) u) → u.busy = true →
     ∃ t, turns 3 s = .next t ∧ t.completed e 0 ∧ t.noSession ∧ u.noExchange t ∧ t.hostbuf = u.hostbuf)

/-- R220, R236: the preconditions of the transfers, in their order, before any exchange; then the operation's own command. For
READ_BLOCKS and WRITE_BLOCKS the count decides: 1 runs the single-block operation (log entry 12), at least 2 the multi-block
protocol, with the pre-erase hint first if configured (R233).
R45: MB_OPEN is 1 from the transmission of CMD18 or CMD25 on. That it rises with the packet's first byte is the model's reading
(log entry 11); the assignments of R230 and R232 stand after the status check. -/
def Obligations.TransferPreconditions : Prop :=
  ∀ (st : Stage) (n : Nat) (s : State), s.seq = ⟨st, .present, true⟩ →
    (st, n) ∈ ([(.readBlock, 1), (.writeBlock, 1), (.readBlocks, s.latCount.toNat), (.writeBlocks, s.latCount.toNat)] :
      List (Stage × Nat)) →
    retire s = .next
      (if s.pval = false then beginTeardown (.complete .noCard) s
      else if s.lifecycle ≠ .ready then s.due (.finish .noCard 0)
      else if n = 0 then s.due (.finish .parameterOutOfRange 0)
      else if s.blockAddr = false ∧ s.latSector.toNat > 0x007FFFFF then s.due (.finish .parameterOutOfRange 0)
      else if 512 * n > s.cfg.hostbufSize then s.due (.finish .parameterOutOfRange 0)
      else if st = .readBlock ∨ st = .readBlocks ∧ n = 1 then
        sendCommand .readBlockCmd 17 (addrOf s.blockAddr s.latSector) { s with attempt := 1 }
      else if st = .writeBlock ∨ st = .writeBlocks ∧ n = 1 then
        sendCommand .writeBlockCmd 24 (addrOf s.blockAddr s.latSector) s
      else if st = .readBlocks then sendCommand .readBlocksCmd 18 (addrOf s.blockAddr s.latSector) { s with mbOpen := true }
      else if s.cfg.preErase then sendCommand .preErasePrefix 55 0 s
      else sendCommand .writeBlocksCmd 25 (addrOf s.blockAddr s.latSector) { s with mbOpen := true })

/-- R198, R220, R281, R285: with presence false, every transfer and SECTOR_COUNT completes with NO_CARD, without any bus
activity, and tears the session down. -/
def Obligations.NoCardWithoutBusActivity : Prop :=
  ∀ (st : Stage) (s : State), s.busy = true → s.cd = false → s.seq = ⟨st, .start, true⟩ →
    st ∈ ([.readBlock, .writeBlock, .readBlocks, .writeBlocks, .sectorCount] : List Stage) →
    ∃ t, turns 4 s = .next t ∧ t.completed .noCard 0 ∧ t.noSession ∧ s.noExchange t ∧ t.hostbuf = s.hostbuf

/-- R220, R268, R270: SECTOR_COUNT with a card. In a READY session a valid cache is returned in two steps without any exchange;
without one CMD9 is sent. With no READY session it completes with NO_CARD, without any exchange, and the session is left as it
was. -/
def Obligations.SectorCountCache : Prop :=
  ∀ s : State, s.busy = true → s.cd = true → s.seq = ⟨.sectorCount, .start, true⟩ →
    (s.lifecycle = .ready → s.scValid = true → ∃ t, turns 2 s = .next t ∧ t.completed .ok s.scValue ∧ s.sameSession t ∧
      s.noExchange t ∧ t.hostbuf = s.hostbuf) ∧
    (s.lifecycle = .ready → s.scValid = false → ∃ t, turns 2 s = .next t ∧ t.seq = ⟨.sectorCountCmd, .cmdTx 0, true⟩ ∧
      t.pkt = frame s.cfg.crcEnable 9 0 ∧ t.mosi = 0x49 ∧ t.xchgs = s.xchgs + 1 ∧ s.sameSession t) ∧
    (s.lifecycle ≠ .ready → ∃ t, turns 2 s = .next t ∧ t.completed .noCard 0 ∧ s.sameSession t ∧ s.noExchange t ∧
      t.hostbuf = s.hostbuf)

/-! ### Pure operations -/

/-- R138, R139: the host writes CRC7 or CRC16 to `CTRL` of an idle block: LEN bytes of HOSTBUF are read, one per step, and their
CRC is returned; CRC7R or CRC16R changes and nothing of the session, the outputs or the buffer; presence is not sampled. A length
above HOSTBUF_SIZE is refused in one step. -/
def Obligations.CrcOperations : Prop :=
  ∀ (s : State) (r : List Input) (v : Word), s.inputs = .write 0 v :: r → s.busy = false →
    (v &&& 0xFF = 0x0A → ∃ u, step s = .next u ∧ u.busy = true ∧
      (s.len.toNat > s.cfg.hostbufSize → ∃ t, turn u = .next t ∧ t.completed .parameterOutOfRange 0 ∧
        t.crc7r = s.crc7r ∧ t.crc16r = s.crc16r ∧ s.sameSession t ∧ s.noExchange t ∧ t.hostbuf = s.hostbuf) ∧
      (s.len.toNat ≤ s.cfg.hostbufSize → ∃ t, turns (s.len.toNat + 1) u = .next t ∧
        t.completed .ok ((crc7 (s.bufferBytes s.len.toNat)).setWidth 32) ∧
        t.crc7r = crc7 (s.bufferBytes s.len.toNat) ∧ t.crc16r = s.crc16r ∧ s.sameSession t ∧ s.noExchange t ∧
        t.hostbuf = s.hostbuf ∧ t.pval = s.pval ∧ u.sameHostSide t)) ∧
    (v &&& 0xFF = 0x0B → ∃ u, step s = .next u ∧ u.busy = true ∧
      (s.len.toNat > s.cfg.hostbufSize → ∃ t, turn u = .next t ∧ t.completed .parameterOutOfRange 0 ∧
        t.crc16r = s.crc16r ∧ t.crc7r = s.crc7r ∧ s.sameSession t ∧ s.noExchange t ∧ t.hostbuf = s.hostbuf) ∧
      (s.len.toNat ≤ s.cfg.hostbufSize → ∃ t, turns (s.len.toNat + 1) u = .next t ∧
        t.completed .ok ((crc16 (s.bufferBytes s.len.toNat)).setWidth 32) ∧
        t.crc16r = crc16 (s.bufferBytes s.len.toNat) ∧ t.crc7r = s.crc7r ∧ s.sameSession t ∧ s.noExchange t ∧
        t.hostbuf = s.hostbuf ∧ t.pval = s.pval ∧ u.sameHostSide t))

/-- R267: the host writes CSD_PARSE to `CTRL` of an idle block: 16 bytes of HOSTBUF are read, one per step, and the operation
completes with the parser's result; neither CSDREG nor the cache nor the session changes; presence is not sampled. -/
def Obligations.CsdParseOperation : Prop :=
  ∀ (s : State) (r : List Input) (v : Word), s.inputs = .write 0 v :: r → s.busy = false → v &&& 0xFF = 0x0C →
    16 ≤ s.cfg.hostbufSize →
    ∃ u t, step s = .next u ∧ u.busy = true ∧ turns 17 u = .next t ∧
      t.completed (csdParse (s.bufferBytes 16)).1
        (if (csdParse (s.bufferBytes 16)).1 = Err.ok then (csdParse (s.bufferBytes 16)).2 else 0) ∧
      s.sameSession t ∧ s.noExchange t ∧ t.hostbuf = s.hostbuf ∧ t.crc7r = s.crc7r ∧ t.crc16r = s.crc16r ∧
      t.pval = s.pval ∧ u.sameHostSide t

/-! ### Runs on the wire -/

/-- R150, R153, R173, R174: from the first byte of a packet, five steps send the other five, whatever the card returns; then
CMD12 has its extra byte-time and every other command its first poll.
R154, R65: the status byte of CMD8 or CMD58, then exactly four exchanges of 0xFF; the four bytes form a big-endian word. -/
def Obligations.EngineExchanges : Prop :=
  (∀ (st : Stage) (s : State), s.busy = true → s.seq = ⟨st, .cmdTx 0, true⟩ →
     ∃ t, turns 5 s = .next t ∧ t.seq = ⟨st, .cmdTx 5, true⟩ ∧ t.xchgs = s.xchgs + 5 ∧ t.miso = s.miso.drop 5 ∧
       sentIn 5 s = [packetByte s.pkt 1, packetByte s.pkt 2, packetByte s.pkt 3, packetByte s.pkt 4, packetByte s.pkt 5] ∧
       s.sameSession t ∧ t.hostbuf = s.hostbuf ∧ t.resp = s.resp ∧
       ∃ w, turn t = .next w ∧ w.mosi = 0xFF ∧ w.xchgs = s.xchgs + 6 ∧
         w.seq = if st = .readBlocksStop then ⟨st, .stopGap, true⟩ else ⟨st, .poll 1, true⟩) ∧
  (∀ (st : Stage) (k : Nat) (b1 b2 b3 b4 : Byte) (r : List Byte) (s : State), s.busy = true →
     s.seq = ⟨st, .poll k, true⟩ → st = .initVcheck ∨ st = .initOcr ∨ st = .initCap → s.rx.getLsbD 7 = false →
     s.miso = b1 :: b2 :: b3 :: b4 :: r →
     ∃ t, turns 4 s = .next t ∧ t.xchgs = s.xchgs + 4 ∧ sentIn 4 s = [0xFF, 0xFF, 0xFF, 0xFF] ∧ t.miso = r ∧
       received t = some (if st = .initVcheck then .extIfCond else .extOcr, .ext (s.rx ++ b1 ++ b2 ++ b3 ++ b4)) ∧
       t.cs = s.cs ∧ t.resp = s.rx)

/-- R223, R136: once the start token of a sector's frame has come, exactly 514 exchanges of 0xFF follow; payload byte i goes to
its HOSTBUF address as it arrives and no other byte changes; the trailer is compared only when CRC_ON = 1. -/
def Obligations.SectorFrameReceived : Prop :=
  ∀ (st : Stage) (payload : List Byte) (hi lo : Byte) (r : List Byte) (s : State), s.Inv → s.busy = true →
    s.seq = ⟨st, .tokWait, true⟩ → st = .readBlockData ∨ st = .readBlocksData → s.rx = 0xFE →
    payload.length = 512 → s.miso = payload ++ hi :: lo :: r →
    ∃ t, turns (2 * 512 + 2) s = .next t ∧ t.xchgs = s.xchgs + 514 ∧ t.miso = r ∧
      sentIn (2 * 512 + 2) s = List.replicate 514 0xFF ∧
      (∀ i, i < 512 →
        t.hostbuf.read (512 * (if st = .readBlocksData then s.blkIdx else 0) + i) = payload.getD i 0) ∧
      (∀ x, x < 512 * (if st = .readBlocksData then s.blkIdx else 0) ∨
          512 * (if st = .readBlocksData then s.blkIdx else 0) + 512 ≤ x → t.hostbuf.read x = s.hostbuf.read x) ∧
      s.sameSession t ∧ s.sameHostSide t ∧ t.blkIdx = s.blkIdx ∧ t.attempt = s.attempt ∧
      retire t = .next
        (afterFrame (if s.crcOn = true ∧ (hi ++ lo : BitVec 16) ≠ crc16 payload then .dataCrcError else .ok) t)

/-- R223, R269: once the start token of the CSD's frame has come, exactly 18 exchanges of 0xFF follow; byte i goes to CSDREG[i] and
not to HOSTBUF; the trailer is compared only when CRC_ON = 1. -/
def Obligations.CsdFrameReceived : Prop :=
  ∀ (image : List Byte) (hi lo : Byte) (r : List Byte) (s : State), s.busy = true →
    s.seq = ⟨.sectorCountData, .tokWait, true⟩ → s.rx = 0xFE → image.length = 16 → s.miso = image ++ hi :: lo :: r →
    ∃ t, turns (16 + 2) s = .next t ∧ t.xchgs = s.xchgs + 18 ∧ t.miso = r ∧ sentIn (16 + 2) s = List.replicate 18 0xFF ∧
      t.csdReg.toList = image ∧ t.hostbuf = s.hostbuf ∧ t.lifecycle = s.lifecycle ∧ t.blockAddr = s.blockAddr ∧
      t.crcOn = s.crcOn ∧ t.legacy = s.legacy ∧ t.scValid = s.scValid ∧ t.scValue = s.scValue ∧ t.cs = s.cs ∧
      t.clkFast = s.clkFast ∧ s.sameHostSide t ∧
      retire t = .next (afterFrame (if s.crcOn = true ∧ (hi ++ lo : BitVec 16) ≠ crc16 image then .dataCrcError else .ok) t)

/-- R225, R96: after the pad byte, the block sends the start token of its operation, the 512 payload bytes of its block of
HOSTBUF and the CRC16 of exactly those bytes (or 0xFFFF when CRC_ON = 0), then 0xFF for the data response; HOSTBUF is only
read. -/
def Obligations.SectorFrameSent : Prop :=
  ∀ (st : Stage) (s : State), s.Inv → s.busy = true → s.seq = ⟨st, .pad, true⟩ →
    st = .writeBlockData ∨ st = .writeBlocksData →
    ∃ (t : State) (payload : List Byte),
      payload = (List.range 512).map (fun i => s.hostbuf.read (512 * (if st = .writeBlocksData then s.blkIdx else 0) + i)) ∧
      turns (1 + 2 * 512 + 3) s = .next t ∧ t.seq = ⟨st, .dresp, true⟩ ∧ t.xchgs = s.xchgs + 516 ∧
      sentIn (1 + 2 * 512 + 3) s =
        (if st = .writeBlocksData then 0xFC else 0xFE) :: payload ++ be16 (if s.crcOn then crc16 payload else 0xFFFF) ++
          [0xFF] ∧
      t.hostbuf = s.hostbuf ∧ s.sameSession t ∧ s.sameHostSide t

/-- R227, R238 (and R222, R223): READ_BLOCK in a READY session, in the reference time base, against a card that takes the
packet, answers 0x00 after `j` < 8 bytes without a status, sends the start token after `w` < T_TOKEN idle bytes, and then the
payload with its CRC16: the operation completes with OK after exactly (6 + j + 1) + w + 1 + 514 exchanges, HOSTBUF[0..512)
holds the payload and every other byte is as before. -/
def Obligations.ReadBlockDelivers : Prop :=
  ∀ (six nos payload r : List Byte) (w : Nat) (s : State), s.Inv → s.busy = true → s.cd = true → s.lifecycle = .ready →
    s.seq = ⟨.readBlock, .start, true⟩ → s.cfg.timeBase = .perExchange →
    (s.blockAddr = true ∨ s.latSector.toNat ≤ 0x007FFFFF) →
    six.length = 6 → nos.length < 8 → (∀ b ∈ nos, b.getLsbD 7 = true) → w < s.cfg.tToken → payload.length = 512 →
    s.miso = six ++ nos ++ [0x00] ++ List.replicate w 0xFF ++ [0xFE] ++ payload ++ be16 (crc16 payload) ++ r →
    ∃ (n : Nat) (t : State), turns n s = .next t ∧ t.completed .ok 0 ∧
      t.xchgs = s.xchgs + (6 + (nos.length + 1)) + w + 1 + 512 + 2 ∧ t.miso = r ∧
      (∀ i, i < 512 → t.hostbuf.read i = payload.getD i 0) ∧
      (∀ x, 512 ≤ x → t.hostbuf.read x = s.hostbuf.read x) ∧ s.sameSession t ∧ s.sameHostSide t

/-! ### Rules of the whole machine -/

/-- R43, R44, R61, R128, R328: the invariant of the states at rest holds at reset (its HOSTBUF lists nothing: log entry 8), in
every configuration in the ranges of R7. -/
def Obligations.InvariantAtReset : Prop :=
  State.reset.Inv ∧ ∀ c : Config, c.wf = true → (State.resetWith c).Inv

/-- R43, R44, R45, R61, R126, R128, R328: every step, of the controller, the host or the environment, keeps the invariant. Its
clause on MB_OPEN takes the flag to be 1 from the first byte of CMD18 or CMD25: that it is the first byte is the model's reading
of R45 (log entry 11). -/
def Obligations.InvariantKept : Prop :=
  ∀ s t : State, s.Inv → step s = .next t → t.Inv

/-- R30, R61, R283, R298: from a state of the invariant a step answers a next state unless the next event is a narrow host
access, which is refused, or a host access outside HOSTBUF, which faults; the controller's own steps never stop. The spec gives
no outcome for a host access outside HOSTBUF: the fault is the model's choice (log entry 17). -/
def Obligations.StepStopsOnlyAtBadHostAccess : Prop :=
  ∀ s : State, s.Inv →
    (∃ t, step s = .next t) ∨
    (∃ o, s.inputs.head? = some (.narrow o) ∧ step s = .refused .narrowAccess) ∨
    (∃ a, s.cfg.hostbufSize ≤ a ∧ ((∃ b, s.inputs.head? = some (.bufWrite a b)) ∨ s.inputs.head? = some (.bufRead a)) ∧
      step s = .fault .hostBufferRange)

/-- R128: the outputs agree with the session whenever the block is idle. R126, R331: every exchange of the controller happens with
chip select asserted, except the dummy clocks; during INITIALIZE the clock is slow, outside it fast. -/
def Obligations.OutputsAndExchanges : Prop :=
  (∀ s : State, s.Inv → s.busy = false →
     (s.lifecycle = .ready → s.cs = true ∧ s.clkFast = true) ∧
     (s.lifecycle = .uninit → s.cs = false ∧ s.clkFast = false) ∧
     s.lifecycle ≠ .idle ∧ (s.clkFast = true → s.lifecycle = .ready)) ∧
  (∀ s t : State, s.Inv → turn s = .next t → t.xchgs ≠ s.xchgs →
     (∃ k, t.seq = ⟨.initStart, .dummy k, true⟩ ∧ t.cs = false ∧ t.clkFast = false ∧ t.mosi = 0xFF) ∨
     (t.cs = true ∧ (t.lifecycle = .ready ∧ t.clkFast = true ∨ t.lifecycle ≠ .ready ∧ t.clkFast = false)))

/-- R121, R122, R330: chip select rises only after the last dummy byte and falls only in Teardown; the clock becomes fast only
in the Ready step and slow only in Teardown; no byte is exchanged in such a step. No host event but the reset changes them. -/
def Obligations.ChipSelectAndClockChange : Prop :=
  ∀ s t : State, s.Inv → s.noReset → step s = .next t →
    (s.cs = false ∧ t.cs = true → s.seq = ⟨.initStart, .dummy 10, true⟩ ∧ t.seq = ⟨.initStart, .csAssert, true⟩) ∧
    (s.cs = true ∧ t.cs = false → ∃ k, t.seq = ⟨.tearingDown k, .tdCs, true⟩) ∧
    (s.clkFast = false ∧ t.clkFast = true → t.seq = ⟨.initReady, .clkFast, true⟩) ∧
    (s.clkFast = true ∧ t.clkFast = false → ∃ k, t.seq = ⟨.tearingDown k, .tdClk, true⟩) ∧
    (s.cs ≠ t.cs ∨ s.clkFast ≠ t.clkFast → t.xchgs = s.xchgs)

/-- R32, R33, R34, R35, R36, R270: who changes the session: Teardown clears it; CapacityCheck writes BLOCK_ADDR, the CrcEnable
step CRC_ON (from VoltageCheck when it is skipped), VoltageCheck LEGACY, a successful SECTOR_COUNT fills the cache, Reset makes
LIFECYCLE IDLE and Ready READY. Nothing else does but the reset. -/
def Obligations.SessionChanges : Prop :=
  ∀ s t : State, s.Inv → s.noReset → step s = .next t →
    (t.lifecycle ≠ s.lifecycle →
      s.tornDown ∧ t.lifecycle = .uninit ∨ s.seq.stage = .initReset ∧ s.rx = 0x01 ∧ t.lifecycle = .idle ∨
        s.seq.stage = .initReady ∧ t.lifecycle = .ready) ∧
    (t.blockAddr ≠ s.blockAddr → s.tornDown ∧ t.blockAddr = false ∨ s.seq.stage = .initCap) ∧
    (t.crcOn ≠ s.crcOn →
      s.tornDown ∧ t.crcOn = false ∨ s.seq.stage = .initCrcen ∨ s.seq.stage = .initVcheck ∧ t.crcOn = false) ∧
    (t.legacy ≠ s.legacy → s.tornDown ∧ t.legacy = false ∨ s.seq.stage = .initVcheck) ∧
    (t.scValid ≠ s.scValid ∨ t.scValue ≠ s.scValue →
      s.tornDown ∧ t.scValid = false ∧ t.scValue = 0 ∨
        s.seq.stage = .sectorCountData ∧ t.completed .ok t.scValue ∧ t.scValid = true)

/-- R229, R232, R138, R139, R267, R269: the controller writes HOSTBUF only when it stores a payload byte of a read, at that
byte's address; no write, query or pure operation changes a byte of it. -/
def Obligations.BufferWrittenOnlyByReads : Prop :=
  ∀ s t : State, s.Inv → turn s = .next t →
    t.hostbuf = s.hostbuf ∨
    (s.seq = ⟨.readBlockData, .dataRx, true⟩ ∧ t.hostbuf = s.hostbuf.write s.byteIdx s.rx) ∨
    (s.seq = ⟨.readBlocksData, .dataRx, true⟩ ∧ t.hostbuf = s.hostbuf.write (512 * s.blkIdx + s.byteIdx) s.rx)

/-- R27, R28, R31, R325: a step of the controller leaves the host's registers, the latches and the configuration alone; RESULT
and VALUE change only in the completion step, and BUSY falls only there. -/
def Obligations.ControllerLeavesHostSide : Prop :=
  ∀ s t : State, turn s = .next t →
    s.sameHostSide t ∧ (t.busy = true → t.result = s.result ∧ t.value = s.value) ∧
    (s.busy = true ∧ t.busy = false → t.seq = Seq.idle ∧ (t.result ≠ .ok → t.value = 0))

/-- R31, R75, R325: the running operation does not see CTRL, SECTOR, COUNT and LEN: with other values in them the step is the
same, those registers apart. -/
def Obligations.RequestRegistersNotSeen : Prop :=
  ∀ (s t : State) (o : BitVec 8) (a b : Word) (c : BitVec 16), turn s = .next t →
    turn { s with opcode := o, sector := a, count := b, len := c } =
      .next { t with opcode := o, sector := a, count := b, len := c }

/-- R100, R153, R234: the bytes received while the block sends, at the stop gap, after the stop token and in the dummy clocks
are discarded: with another byte there, the sequencer goes on the same way. -/
def Obligations.SendingDiscardsReceived : Prop :=
  ∀ (s t : State) (b : Byte), s.seq.done = true → retire s = .next t →
    (s.seq.point ∈ ([.stopGap, .pad, .dataTx, .crcTxHi, .crcTxLo, .stopByte] : List Point) ∨
      (∃ k, s.seq.point = .cmdTx k ∨ s.seq.point = .dummy k) ∨ (∃ x, s.seq.point = .tokTx x)) →
    retire { s with rx := b } = .next { t with rx := b }

/-- R44, R120, R125: a step of the controller makes at most one exchange; one exchange consumes one byte of the card, and a
step without one consumes none and leaves MOSI; the time input never goes back. -/
def Obligations.OneExchangePerStep : Prop :=
  ∀ s t : State, turn s = .next t →
    (s.noExchange t ∨
      t.xchgs = s.xchgs + 1 ∧ t.miso = s.miso.tail ∧ (∀ b r, s.miso = b :: r → t.rx = b) ∧ t.seq.done = true) ∧
    s.now ≤ t.now

/-- R45, R230, R231, R234, R284, R328: MB_OPEN rises in the step that sends the first byte of CMD18 or CMD25 (that it is the first
byte is the model's reading, log entry 11), is 1 while that command is on the wire, and is cleared only by the step that completes
the operation after the termination's busy wait; so it is 0 whenever the block is idle. -/
def Obligations.TerminationAlwaysRuns : Prop :=
  (∀ s : State, s.Inv → s.busy = false → s.mbOpen = false) ∧
  (∀ s : State, s.Inv → s.seq.stage = .readBlocksCmd ∨ s.seq.stage = .writeBlocksCmd → s.mbOpen = true) ∧
  (∀ s t : State, s.Inv → turn s = .next t → s.mbOpen = false → t.mbOpen = true →
    ∃ st, (st = .readBlocksCmd ∨ st = .writeBlocksCmd) ∧ t.seq = ⟨st, .cmdTx 0, true⟩ ∧ t.xchgs = s.xchgs + 1) ∧
  (∀ s t : State, s.Inv → turn s = .next t → s.mbOpen = true → t.mbOpen = false →
    t.busy = false ∧ (s.seq.stage = .writeBlocksStop ∨ ∃ e, s.seq.stage = .readBlocksBusy e) ∧
      (s.seq.point = .busyWait ∨ s.seq.point = .busyCheck) ∧
      (s.firstErr ≠ .ok → t.result = s.firstErr))

/-- R61, R68: HOSTBUF as the host writes it: the byte written reads back, every other byte is unchanged, the canonical form is
kept. While BUSY = 1, in the part the running operation uses, R77, R326 and U17 leave the value open: that the host's byte is the
one stored there, and that a host read returns the byte there, is the model's choice (log entry 22). An access at or above HOSTBUF_SIZE faults: the spec gives no outcome for it, so that is the model's choice (log
entry 17). -/
def Obligations.HostBufferAccess : Prop :=
  ∀ (s : State) (r : List Input) (a : Nat) (b : Byte), s.hostbuf.wf = true →
    (s.inputs = .bufWrite a b :: r → a < s.cfg.hostbufSize →
      ∃ m : Mem, step s = .next { s with inputs := r, hostbuf := m } ∧ m.wf = true ∧ m.read a = b ∧
        ∀ x, x ≠ a → m.read x = s.hostbuf.read x) ∧
    (s.inputs = .bufRead a :: r → a < s.cfg.hostbufSize →
      step s = .next { s with inputs := r, rdata := (s.hostbuf.read a).setWidth 32 }) ∧
    (s.inputs = .bufWrite a b :: r ∨ s.inputs = .bufRead a :: r → s.cfg.hostbufSize ≤ a →
      step s = .fault .hostBufferRange)
end

