-- ==== Sys2Proof/Laws/Encoding.lean ====
section
/-! SUPPORT. The command packet: its bits, what the decoder reads from it, and that every framed command decodes. -/

namespace Sys2Proof

/-- Bit `n` of a packet (R84). -/
theorem packet_getLsbD (idx : BitVec 6) (arg : Word) (crc : BitVec 7) (n : Nat) :
    (packet idx arg crc).getLsbD n =
      if n < 1 then true
      else if n < 8 then crc.getLsbD (n - 1)
      else if n < 40 then arg.getLsbD (n - 8)
      else if n < 46 then idx.getLsbD (n - 40)
      else n == 46 := by
  show BitVec.getLsbD (w := 2 + 6 + 32 + 7 + 1) (0b01#2 ++ idx ++ arg ++ crc ++ 1#1) n = _
  simp only [BitVec.getLsbD_append]
  by_cases h1 : n < 1
  · have : n = 0 := by omega
    subst this; rfl
  by_cases h2 : n < 8
  · simp [h1, h2, show n - 1 < 7 by omega]
  by_cases h3 : n < 40
  · simp [h1, h2, h3, show ¬ n - 1 < 7 by omega, show n - 1 - 7 = n - 8 by omega, show n - 8 < 32 by omega]
  by_cases h4 : n < 46
  · simp [h1, h2, h3, h4, show ¬ n - 1 < 7 by omega, show ¬ n - 1 - 7 < 32 by omega, 
      show n - 1 - 7 - 32 = n - 40 by omega, show n - 40 < 6 by omega]
  by_cases h5 : n = 46
  · subst h5; rfl
  · simp [h1, h2, h3, h4, h5, beq_eq_false_iff_ne, show ¬ n - 1 < 7 by omega, show ¬ n - 1 - 7 < 32 by omega, show ¬ n - 1 - 7 - 32 < 6 by omega,
      show ¬ n - 1 - 7 - 32 - 6 = 0 by omega]
/-- The decoder reads exactly the fields a packet was built from. -/
theorem decodePacket_packet (idx : BitVec 6) (arg : Word) (crc : BitVec 7) :
    decodePacket (packet idx arg crc) = decodeCommand idx arg crc := by
  have h1 : (packet idx arg crc).extractLsb' 46 2 = 1#2 := by
    apply BitVec.eq_of_getLsbD_eq
    intro i hi
    rw [BitVec.getLsbD_extractLsb', packet_getLsbD]
    interval_cases i <;> rfl
  have h2 : (packet idx arg crc).getLsbD 0 = true := by rw [packet_getLsbD]; rfl
  have h3 : (packet idx arg crc).extractLsb' 40 6 = idx := by
    apply BitVec.eq_of_getLsbD_eq
    intro i hi
    rw [BitVec.getLsbD_extractLsb', packet_getLsbD]
    simp [hi, show ¬ 40 + i < 1 by omega, show ¬ 40 + i < 8 by omega, show ¬ 40 + i < 40 by omega, show 40 + i < 46 by omega]
  have h4 : (packet idx arg crc).extractLsb' 8 32 = arg := by
    apply BitVec.eq_of_getLsbD_eq
    intro i hi
    rw [BitVec.getLsbD_extractLsb', packet_getLsbD]
    simp [hi, show ¬ 8 + i < 1 by omega, show ¬ 8 + i < 8 by omega, show 8 + i < 40 by omega]
  have h5 : (packet idx arg crc).extractLsb' 1 7 = crc := by
    apply BitVec.eq_of_getLsbD_eq
    intro i hi
    rw [BitVec.getLsbD_extractLsb', packet_getLsbD]
    simp [hi, show ¬ 1 + i < 1 by omega, show 1 + i < 8 by omega]
  simp only [decodePacket, h1, h2, h3, h4, h5, if_true]

/-- The CRC7 field the framer writes (R85, R150). -/
theorem frame_eq_packet (e : Bool) (idx : BitVec 6) (arg : Word) :
    frame e idx arg = packet idx arg (if crcComputed e idx then packetCrc idx arg else 0x7F) := rfl

theorem decode_frame (e : Bool) (idx : BitVec 6) (arg : Word) :
    decode .cmdPacket (.packet (frame e idx arg)) =
      decodeCommand idx arg (if crcComputed e idx then packetCrc idx arg else 0x7F) := by
  rw [frame_eq_packet]
  exact decodePacket_packet _ _ _

/-- The packet that is about to be sent is a command's: executing it loads and starts it. -/
theorem Machine.exec_packet {i : Instr} {w : BitVec 48} (h : encode i = .packet w) (s : Machine.State) :
    Machine.exec i s = .next (Machine.sendPacket w s) := by
  cases i <;> simp [encode] at h <;> subst h <;> rfl

end Sys2Proof
end

