-- ==== Sys2Proof/Laws/Memory.lean ====
section
/-! SUPPORT. HOSTBUF: read after write, and that a write keeps the canonical form and the size. -/

namespace Sys2Proof.Machine

@[simp] theorem Mem.read_nil (a : Nat) : Mem.read [] a = Mem.unlisted := rfl

theorem Mem.read_cons (k : Nat) (v : Byte) (r : Mem) (a : Nat) :
    Mem.read ((k, v) :: r) a = if k = a then v else Mem.read r a := rfl

theorem Mem.wfFrom_cons (lo k : Nat) (v : Byte) (r : Mem) :
    Mem.wfFrom lo ((k, v) :: r) = true ↔ lo ≤ k ∧ v ≠ Mem.unlisted ∧ Mem.wfFrom (k + 1) r = true := by
  simp [Mem.wfFrom, and_assoc]

theorem Mem.wfFrom_mono {lo lo' : Nat} (h : lo' ≤ lo) {m : Mem} (hm : Mem.wfFrom lo m = true) :
    Mem.wfFrom lo' m = true := by
  cases m with
  | nil => rfl
  | cons c r =>
    obtain ⟨k, v⟩ := c
    rw [Mem.wfFrom_cons] at hm ⊢
    exact ⟨by omega, hm.2⟩

/-- Below its first address a canonical list reads as unlisted. -/
theorem Mem.read_below {lo a : Nat} {m : Mem} (hm : Mem.wfFrom lo m = true) (h : a < lo) :
    Mem.read m a = Mem.unlisted := by
  induction m generalizing lo with
  | nil => rfl
  | cons c r ih =>
    obtain ⟨k, v⟩ := c
    rw [Mem.wfFrom_cons] at hm
    rw [Mem.read_cons, if_neg (by omega), ih hm.2.2 (by omega)]

theorem Mem.read_consCell {lo a : Nat} {b : Byte} {r : Mem} (hr : Mem.wfFrom lo r = true) (h : a < lo) (x : Nat) :
    Mem.read (Mem.cons a b r) x = if a = x then b else Mem.read r x := by
  unfold Mem.cons
  split
  · split
    · rename_i hb hx
      rw [hb, ← hx, Mem.read_below hr h]
    · rfl
  · rw [Mem.read_cons]

theorem Mem.consCell_wf {lo a : Nat} {b : Byte} {r : Mem} (hr : Mem.wfFrom (a + 1) r = true) (h : lo ≤ a) :
    Mem.wfFrom lo (Mem.cons a b r) = true := by
  unfold Mem.cons
  split
  · exact Mem.wfFrom_mono (by omega) hr
  · rw [Mem.wfFrom_cons]
    exact ⟨h, ‹_›, hr⟩

/-- Everything a write does, on a canonical memory: the byte at `a`, and no other. -/
theorem Mem.read_write {m : Mem} {lo : Nat} (hm : Mem.wfFrom lo m = true) (a : Nat) (b : Byte) (x : Nat) :
    Mem.read (Mem.write m a b) x = if a = x then b else Mem.read m x := by
  induction m generalizing lo with
  | nil => exact Mem.read_consCell (lo := a + 1) rfl (by omega) x
  | cons c r ih =>
    obtain ⟨k, v⟩ := c
    have hr := (Mem.wfFrom_cons _ _ _ _).1 hm
    simp only [Mem.write]
    split
    · refine Mem.read_consCell (lo := k) ?_ ‹_› x
      rw [Mem.wfFrom_cons]
      exact ⟨Nat.le_refl k, hr.2⟩
    · split
      · rename_i hk
        rw [Mem.read_consCell (lo := k + 1) hr.2.2 (by omega), Mem.read_cons]
        split
        · rfl
        · rw [if_neg (by omega)]
      · rw [Mem.read_cons, Mem.read_cons, ih hr.2.2]
        split
        · rw [if_neg (by omega)]
        · rfl

theorem Mem.write_wfFrom {m : Mem} {lo : Nat} (hm : Mem.wfFrom lo m = true) (a : Nat) (b : Byte) (h : lo ≤ a) :
    Mem.wfFrom lo (Mem.write m a b) = true := by
  induction m generalizing lo with
  | nil => exact Mem.consCell_wf rfl h
  | cons c r ih =>
    obtain ⟨k, v⟩ := c
    have hr := (Mem.wfFrom_cons _ _ _ _).1 hm
    simp only [Mem.write]
    split
    · refine Mem.consCell_wf ?_ h
      rw [Mem.wfFrom_cons]
      exact ⟨by omega, hr.2⟩
    · split
      · rename_i hk
        exact Mem.consCell_wf (hk ▸ hr.2.2) h
      · rw [Mem.wfFrom_cons]
        exact ⟨hr.1, hr.2.1, ih hr.2.2 (by omega)⟩

/-- A write keeps the canonical form. -/
theorem Mem.write_wf {m : Mem} (hm : m.wf = true) (a : Nat) (b : Byte) : (m.write a b).wf = true :=
  Mem.write_wfFrom hm a b (Nat.zero_le a)

theorem Mem.read_write_same {m : Mem} (hm : m.wf = true) (a : Nat) (b : Byte) : (m.write a b).read a = b := by
  rw [Mem.read_write hm, if_pos rfl]

theorem Mem.read_write_other {m : Mem} (hm : m.wf = true) {a x : Nat} (b : Byte) (h : x ≠ a) :
    (m.write a b).read x = m.read x := by
  rw [Mem.read_write hm, if_neg (Ne.symm h)]

theorem Mem.below_cons (n k : Nat) (v : Byte) (r : Mem) :
    Mem.below n ((k, v) :: r) = true ↔ k < n ∧ Mem.below n r = true := by
  simp [Mem.below]

theorem Mem.consCell_below {n a : Nat} {r : Mem} (b : Byte) (hr : Mem.below n r = true) (h : a < n) :
    Mem.below n (Mem.cons a b r) = true := by
  unfold Mem.cons
  split
  · exact hr
  · exact (Mem.below_cons ..).2 ⟨h, hr⟩

/-- A write below the size keeps every cell below the size. -/
theorem Mem.write_below {m : Mem} {n a : Nat} (b : Byte) (hm : m.below n = true) (h : a < n) :
    (m.write a b).below n = true := by
  induction m with
  | nil => exact Mem.consCell_below b rfl h
  | cons c r ih =>
    obtain ⟨k, v⟩ := c
    have hr := (Mem.below_cons ..).1 hm
    simp only [Mem.write]
    split
    · exact Mem.consCell_below b hm h
    · split
      · exact Mem.consCell_below b hr.2 h
      · exact (Mem.below_cons ..).2 ⟨hr.1, ih hr.2⟩

/-- Canonical memories that read the same are the same data. -/
theorem Mem.ext_of_wfFrom {m n : Mem} {lo : Nat} (hm : Mem.wfFrom lo m = true) (hn : Mem.wfFrom lo n = true)
    (h : ∀ a, m.read a = n.read a) : m = n := by
  induction m generalizing n lo with
  | nil =>
    cases n with
    | nil => rfl
    | cons c r =>
      obtain ⟨k, v⟩ := c
      have hr := (Mem.wfFrom_cons _ _ _ _).1 hn
      have := h k
      rw [Mem.read_nil, Mem.read_cons, if_pos rfl] at this
      exact absurd this.symm hr.2.1
  | cons c r ih =>
    obtain ⟨k, v⟩ := c
    have hr := (Mem.wfFrom_cons _ _ _ _).1 hm
    cases n with
    | nil =>
      have := h k
      rw [Mem.read_nil, Mem.read_cons, if_pos rfl] at this
      exact absurd this hr.2.1
    | cons c' r' =>
      obtain ⟨k', v'⟩ := c'
      have hr' := (Mem.wfFrom_cons _ _ _ _).1 hn
      have hk : k = k' := by
        rcases Nat.lt_trichotomy k k' with hlt | heq | hlt
        · have := h k
          rw [Mem.read_cons, if_pos rfl, Mem.read_cons, if_neg (by omega), Mem.read_below hr'.2.2 (by omega)] at this
          exact absurd this hr.2.1
        · exact heq
        · have := h k'
          rw [Mem.read_cons, if_neg (by omega), Mem.read_below hr.2.2 (by omega), Mem.read_cons, if_pos rfl] at this
          exact absurd this.symm hr'.2.1
      subst hk
      have hv : v = v' := by
        have := h k
        rwa [Mem.read_cons, if_pos rfl, Mem.read_cons, if_pos rfl] at this
      subst hv
      have : r = r' := by
        refine ih hr.2.2 hr'.2.2 fun a => ?_
        have ha := h a
        rw [Mem.read_cons, Mem.read_cons] at ha
        by_cases hka : k = a
        · rw [Mem.read_below hr.2.2 (by omega), Mem.read_below hr'.2.2 (by omega)]
        · rwa [if_neg hka, if_neg hka] at ha
      rw [this]

theorem Mem.ext {m n : Mem} (hm : m.wf = true) (hn : n.wf = true) (h : ∀ a, m.read a = n.read a) : m = n :=
  Mem.ext_of_wfFrom hm hn h

end Sys2Proof.Machine
end

