-- ==== Sys2Proof/Laws/Ops.lean ====
section
/-! SUPPORT. What each shared operation can answer, said once: the provers cite these instead of unfolding. -/

namespace Sys2Proof.Machine

theorem andThen_eq_next {o : Out} {f : State → Out} {t : State} :
    andThen o f = .next t ↔ ∃ s, o = .next s ∧ f s = .next t := by
  cases o <;> simp [andThen]

@[simp] theorem andThen_next (s : State) (f : State → Out) : andThen (.next s) f = f s := rfl

theorem memRead_eq_next {a : Nat} {s t : State} :
    memRead a s = .next t ↔
      a < s.cfg.hostbufSize ∧ t = { s with mval := s.hostbuf.read a, seq := ⟨s.seq.stage, s.seq.point, true⟩ } := by
  unfold memRead
  split <;> simp_all [eq_comm]

theorem memWrite_eq_next {a : Nat} {b : Byte} {s t : State} :
    memWrite a b s = .next t ↔
      a < s.cfg.hostbufSize ∧ t = { s with hostbuf := s.hostbuf.write a b, seq := ⟨s.seq.stage, s.seq.point, true⟩ } := by
  unfold memWrite
  split <;> simp_all [eq_comm]

/-- Every instruction answers a next state: none faults, none is refused. -/
theorem exec_answers_next (i : Instr) (s : State) : ∃ t, exec i s = .next t := by
  cases i <;> first
    | exact ⟨_, rfl⟩
    | (simp only [exec, execTokenStartSingle, execFill, lookedAt]; split <;> exact ⟨_, rfl⟩)

theorem turn_idle {s : State} (h : s.busy = false) : turn s = .next s := by
  simp [turn, h]

theorem turn_busy {s : State} (h : s.busy = true) : turn s = andThen (retire s) issue := by
  simp [turn, h]

theorem start_busy (op : BitVec 8) (st : Stage) {s : State} (h : s.busy = true) : start op st s = s := by
  simp [start, h]

/-- A host operation started while idle. -/
theorem start_idle (op : BitVec 8) (st : Stage) {s : State} (h : s.busy = false) :
    start op st s =
      { s with
        opcode := op
        latOp := op
        latSector := s.sector
        latCount := s.count
        latLen := s.len
        busy := true
        seq := ⟨st, .start, true⟩ } := by
  simp [start, h]

theorem retire_due {s : State} (h : s.seq.done = false) : retire s = .next s := by
  simp [retire, h]

/-- The first half of a step where no received byte is looked at. -/
theorem retire_advance {s : State} (h : s.seq.done = true) (hr : received s = none) : retire s = .next (advance s) := by
  simp [retire, h, hr]

/-- The first half of a step where a received item is an instruction. -/
theorem retire_decoded {s : State} {c : Ctx} {w : Code} {i : Instr} (h : s.seq.done = true)
    (hr : received s = some (c, w)) (hd : decode c w = .ok i) : retire s = exec i s := by
  simp [retire, h, hr, hd]

/-- The first half of a step where a received item is none. -/
theorem retire_stray {s : State} {c : Ctx} {w : Code} {e : DecodeError} (h : s.seq.done = true)
    (hr : received s = some (c, w)) (hd : decode c w = .error e) : retire s = .next (strayByte s) := by
  simp [retire, h, hr, hd]

/-- The first half of a step always answers a next state. -/
theorem retire_answers_next (s : State) : ∃ t, retire s = .next t := by
  unfold retire
  split
  · split
    · split
      · exact exec_answers_next _ s
      · exact ⟨_, rfl⟩
    · exact ⟨_, rfl⟩
  · exact ⟨_, rfl⟩

theorem issue_decoded {s : State} {c : Ctx} {w : Code} {i : Instr} (hs : toSend s = some (c, w))
    (hd : decode c w = .ok i) : issue s = exec i s := by
  simp [issue, hs, hd]

theorem issue_perform {s : State} (hs : toSend s = none) : issue s = perform s := by
  simp [issue, hs]

theorem decode_fillSend : decode .fillSend (.byte fillByte) = .ok .fill := by decide

/-- A fill byte that is due is exchanged (R100). -/
theorem issue_fill {s : State} (hd : s.seq.done = false) (hs : toSend s = some (.fillSend, .byte fillByte)) :
    issue s = .next (xchg fillByte s) := by
  rw [issue_decoded hs decode_fillSend]
  simp [exec, execFill, hd]

/-! ### The multi-block commands -/

/-- What sending a multi-block command does: its packet is framed and due, with `MB_OPEN` set; nothing else (R45, R150). -/
@[simp] theorem openMulti_eq (st : Stage) (idx : BitVec 6) (s : State) :
    openMulti st idx s = sendCommand st idx s.sectorArg { s with mbOpen := true } := rfl

end Sys2Proof.Machine
end

