-- ==== Sys2Proof/Laws/PerInstr.lean ====
section
/-! SUPPORT. Per-instruction statements (about the instruction as syntax): the encoding of every instruction has the width of the
point at which the instruction stands (R80). -/

namespace Sys2Proof.Laws.TableWord

/-- The encoding is of the width its point reads: a `CTRL` word, a packet, a byte, or a 5-byte response (R80). -/
def Statement (i : Instr) : Prop :=
  match i.home, encode i with
  | .ctrlWrite, .ctrl _ => True
  | .cmdPacket, .packet _ => True
  | .extOcr, .ext _ => True
  | .extIfCond, .ext _ => True
  | .statusPoll, .byte _ => True
  | .tokenWait, .byte _ => True
  | .dataResponse, .byte _ => True
  | .busyWait, .byte _ => True
  | .tokenSend, .byte _ => True
  | .fillSend, .byte _ => True
  | _, _ => False

theorem cardPresent : Statement .cardPresent := trivial
theorem initCard : Statement .initCard := trivial
theorem isBlockAddressed : Statement .isBlockAddressed := trivial
theorem readBlock : Statement .readBlock := trivial
theorem writeBlock : Statement .writeBlock := trivial
theorem readBlocks : Statement .readBlocks := trivial
theorem writeBlocks : Statement .writeBlocks := trivial
theorem sectorCount : Statement .sectorCount := trivial
theorem teardown : Statement .teardown := trivial
theorem crc7 : Statement .crc7 := trivial
theorem crc16 : Statement .crc16 := trivial
theorem csdParse : Statement .csdParse := trivial
theorem cmd0 : Statement .cmd0 := trivial
theorem cmd8 : Statement .cmd8 := trivial
theorem cmd9 (c : BitVec 7) : Statement (.cmd9 c) := trivial
theorem cmd12 (c : BitVec 7) : Statement (.cmd12 c) := trivial
theorem cmd16 (c : BitVec 7) : Statement (.cmd16 c) := trivial
theorem cmd17 (a : Word) (c : BitVec 7) : Statement (.cmd17 a c) := trivial
theorem cmd18 (a : Word) (c : BitVec 7) : Statement (.cmd18 a c) := trivial
theorem cmd24 (a : Word) (c : BitVec 7) : Statement (.cmd24 a c) := trivial
theorem cmd25 (a : Word) (c : BitVec 7) : Statement (.cmd25 a c) := trivial
theorem cmd55 (c : BitVec 7) : Statement (.cmd55 c) := trivial
theorem cmd58 (c : BitVec 7) : Statement (.cmd58 c) := trivial
theorem cmd59 : Statement .cmd59 := trivial
theorem acmd23 (a : Word) (c : BitVec 7) : Statement (.acmd23 a c) := trivial
theorem acmd41 (c : BitVec 7) : Statement (.acmd41 c) := trivial
theorem acmd41Legacy (c : BitVec 7) : Statement (.acmd41Legacy c) := trivial
theorem tokenStartSingle : Statement .tokenStartSingle := trivial
theorem tokenStartMultiWrite : Statement .tokenStartMultiWrite := trivial
theorem tokenStopTran : Statement .tokenStopTran := trivial
theorem drespAccepted (x : BitVec 3) : Statement (.drespAccepted x) := trivial
theorem drespCrcError (x : BitVec 3) : Statement (.drespCrcError x) := trivial
theorem drespWriteError (x : BitVec 3) : Statement (.drespWriteError x) := trivial
theorem tokenReadError (e : BitVec 4) : Statement (.tokenReadError e) := trivial
theorem resp1 (p a s c l r i : Bool) : Statement (.resp1 p a s c l r i) := trivial
theorem resp3 (t : BitVec 7) (o : Word) : Statement (.resp3 t o) := trivial
theorem resp7 (t : BitVec 7) (n : BitVec 4) (z : BitVec 16) (v : BitVec 4) (k : BitVec 8) : Statement (.resp7 t n z v k) := trivial
theorem busy : Statement .busy := trivial
theorem fill : Statement .fill := trivial

end Sys2Proof.Laws.TableWord
end

