-- ==== Sys2Proof/Laws/State.lean ====
section
/-! SUPPORT. One lemma per field per update of State, for the shared operations: what each changes and what it leaves. -/

namespace Sys2Proof.Machine

/-! ### State.due -/

@[simp] theorem State.due_cfg (p : Point) (s : State) : (s.due p).cfg = s.cfg := rfl
@[simp] theorem State.due_opcode (p : Point) (s : State) : (s.due p).opcode = s.opcode := rfl
@[simp] theorem State.due_sector (p : Point) (s : State) : (s.due p).sector = s.sector := rfl
@[simp] theorem State.due_count (p : Point) (s : State) : (s.due p).count = s.count := rfl
@[simp] theorem State.due_len (p : Point) (s : State) : (s.due p).len = s.len := rfl
@[simp] theorem State.due_busy (p : Point) (s : State) : (s.due p).busy = s.busy := rfl
@[simp] theorem State.due_result (p : Point) (s : State) : (s.due p).result = s.result := rfl
@[simp] theorem State.due_value (p : Point) (s : State) : (s.due p).value = s.value := rfl
@[simp] theorem State.due_latOp (p : Point) (s : State) : (s.due p).latOp = s.latOp := rfl
@[simp] theorem State.due_latSector (p : Point) (s : State) : (s.due p).latSector = s.latSector := rfl
@[simp] theorem State.due_latCount (p : Point) (s : State) : (s.due p).latCount = s.latCount := rfl
@[simp] theorem State.due_latLen (p : Point) (s : State) : (s.due p).latLen = s.latLen := rfl
@[simp] theorem State.due_lifecycle (p : Point) (s : State) : (s.due p).lifecycle = s.lifecycle := rfl
@[simp] theorem State.due_blockAddr (p : Point) (s : State) : (s.due p).blockAddr = s.blockAddr := rfl
@[simp] theorem State.due_crcOn (p : Point) (s : State) : (s.due p).crcOn = s.crcOn := rfl
@[simp] theorem State.due_legacy (p : Point) (s : State) : (s.due p).legacy = s.legacy := rfl
@[simp] theorem State.due_scValid (p : Point) (s : State) : (s.due p).scValid = s.scValid := rfl
@[simp] theorem State.due_scValue (p : Point) (s : State) : (s.due p).scValue = s.scValue := rfl
@[simp] theorem State.due_cs (p : Point) (s : State) : (s.due p).cs = s.cs := rfl
@[simp] theorem State.due_clkFast (p : Point) (s : State) : (s.due p).clkFast = s.clkFast := rfl
@[simp] theorem State.due_mosi (p : Point) (s : State) : (s.due p).mosi = s.mosi := rfl
@[simp] theorem State.due_csdReg (p : Point) (s : State) : (s.due p).csdReg = s.csdReg := rfl
@[simp] theorem State.due_crc7r (p : Point) (s : State) : (s.due p).crc7r = s.crc7r := rfl
@[simp] theorem State.due_crc16r (p : Point) (s : State) : (s.due p).crc16r = s.crc16r := rfl
@[simp] theorem State.due_resp (p : Point) (s : State) : (s.due p).resp = s.resp := rfl
@[simp] theorem State.due_respx (p : Point) (s : State) : (s.due p).respx = s.respx := rfl
@[simp] theorem State.due_seq (p : Point) (s : State) : (s.due p).seq = ⟨s.seq.stage, p, false⟩ := rfl
@[simp] theorem State.due_deadline (p : Point) (s : State) : (s.due p).deadline = s.deadline := rfl
@[simp] theorem State.due_attempt (p : Point) (s : State) : (s.due p).attempt = s.attempt := rfl
@[simp] theorem State.due_blkIdx (p : Point) (s : State) : (s.due p).blkIdx = s.blkIdx := rfl
@[simp] theorem State.due_byteIdx (p : Point) (s : State) : (s.due p).byteIdx = s.byteIdx := rfl
@[simp] theorem State.due_firstErr (p : Point) (s : State) : (s.due p).firstErr = s.firstErr := rfl
@[simp] theorem State.due_mbOpen (p : Point) (s : State) : (s.due p).mbOpen = s.mbOpen := rfl
@[simp] theorem State.due_pkt (p : Point) (s : State) : (s.due p).pkt = s.pkt := rfl
@[simp] theorem State.due_rx (p : Point) (s : State) : (s.due p).rx = s.rx := rfl
@[simp] theorem State.due_mval (p : Point) (s : State) : (s.due p).mval = s.mval := rfl
@[simp] theorem State.due_tval (p : Point) (s : State) : (s.due p).tval = s.tval := rfl
@[simp] theorem State.due_pval (p : Point) (s : State) : (s.due p).pval = s.pval := rfl
@[simp] theorem State.due_hostbuf (p : Point) (s : State) : (s.due p).hostbuf = s.hostbuf := rfl
@[simp] theorem State.due_inputs (p : Point) (s : State) : (s.due p).inputs = s.inputs := rfl
@[simp] theorem State.due_miso (p : Point) (s : State) : (s.due p).miso = s.miso := rfl
@[simp] theorem State.due_cd (p : Point) (s : State) : (s.due p).cd = s.cd := rfl
@[simp] theorem State.due_xchgs (p : Point) (s : State) : (s.due p).xchgs = s.xchgs := rfl
@[simp] theorem State.due_now (p : Point) (s : State) : (s.due p).now = s.now := rfl
@[simp] theorem State.due_draws (p : Point) (s : State) : (s.due p).draws = s.draws := rfl
@[simp] theorem State.due_rdata (p : Point) (s : State) : (s.due p).rdata = s.rdata := rfl

/-! ### State.enter -/

@[simp] theorem State.enter_cfg (st : Stage) (p : Point) (s : State) : (s.enter st p).cfg = s.cfg := rfl
@[simp] theorem State.enter_opcode (st : Stage) (p : Point) (s : State) : (s.enter st p).opcode = s.opcode := rfl
@[simp] theorem State.enter_sector (st : Stage) (p : Point) (s : State) : (s.enter st p).sector = s.sector := rfl
@[simp] theorem State.enter_count (st : Stage) (p : Point) (s : State) : (s.enter st p).count = s.count := rfl
@[simp] theorem State.enter_len (st : Stage) (p : Point) (s : State) : (s.enter st p).len = s.len := rfl
@[simp] theorem State.enter_busy (st : Stage) (p : Point) (s : State) : (s.enter st p).busy = s.busy := rfl
@[simp] theorem State.enter_result (st : Stage) (p : Point) (s : State) : (s.enter st p).result = s.result := rfl
@[simp] theorem State.enter_value (st : Stage) (p : Point) (s : State) : (s.enter st p).value = s.value := rfl
@[simp] theorem State.enter_latOp (st : Stage) (p : Point) (s : State) : (s.enter st p).latOp = s.latOp := rfl
@[simp] theorem State.enter_latSector (st : Stage) (p : Point) (s : State) : (s.enter st p).latSector = s.latSector := rfl
@[simp] theorem State.enter_latCount (st : Stage) (p : Point) (s : State) : (s.enter st p).latCount = s.latCount := rfl
@[simp] theorem State.enter_latLen (st : Stage) (p : Point) (s : State) : (s.enter st p).latLen = s.latLen := rfl
@[simp] theorem State.enter_lifecycle (st : Stage) (p : Point) (s : State) : (s.enter st p).lifecycle = s.lifecycle := rfl
@[simp] theorem State.enter_blockAddr (st : Stage) (p : Point) (s : State) : (s.enter st p).blockAddr = s.blockAddr := rfl
@[simp] theorem State.enter_crcOn (st : Stage) (p : Point) (s : State) : (s.enter st p).crcOn = s.crcOn := rfl
@[simp] theorem State.enter_legacy (st : Stage) (p : Point) (s : State) : (s.enter st p).legacy = s.legacy := rfl
@[simp] theorem State.enter_scValid (st : Stage) (p : Point) (s : State) : (s.enter st p).scValid = s.scValid := rfl
@[simp] theorem State.enter_scValue (st : Stage) (p : Point) (s : State) : (s.enter st p).scValue = s.scValue := rfl
@[simp] theorem State.enter_cs (st : Stage) (p : Point) (s : State) : (s.enter st p).cs = s.cs := rfl
@[simp] theorem State.enter_clkFast (st : Stage) (p : Point) (s : State) : (s.enter st p).clkFast = s.clkFast := rfl
@[simp] theorem State.enter_mosi (st : Stage) (p : Point) (s : State) : (s.enter st p).mosi = s.mosi := rfl
@[simp] theorem State.enter_csdReg (st : Stage) (p : Point) (s : State) : (s.enter st p).csdReg = s.csdReg := rfl
@[simp] theorem State.enter_crc7r (st : Stage) (p : Point) (s : State) : (s.enter st p).crc7r = s.crc7r := rfl
@[simp] theorem State.enter_crc16r (st : Stage) (p : Point) (s : State) : (s.enter st p).crc16r = s.crc16r := rfl
@[simp] theorem State.enter_resp (st : Stage) (p : Point) (s : State) : (s.enter st p).resp = s.resp := rfl
@[simp] theorem State.enter_respx (st : Stage) (p : Point) (s : State) : (s.enter st p).respx = s.respx := rfl
@[simp] theorem State.enter_seq (st : Stage) (p : Point) (s : State) : (s.enter st p).seq = ⟨st, p, false⟩ := rfl
@[simp] theorem State.enter_deadline (st : Stage) (p : Point) (s : State) : (s.enter st p).deadline = s.deadline := rfl
@[simp] theorem State.enter_attempt (st : Stage) (p : Point) (s : State) : (s.enter st p).attempt = s.attempt := rfl
@[simp] theorem State.enter_blkIdx (st : Stage) (p : Point) (s : State) : (s.enter st p).blkIdx = s.blkIdx := rfl
@[simp] theorem State.enter_byteIdx (st : Stage) (p : Point) (s : State) : (s.enter st p).byteIdx = s.byteIdx := rfl
@[simp] theorem State.enter_firstErr (st : Stage) (p : Point) (s : State) : (s.enter st p).firstErr = s.firstErr := rfl
@[simp] theorem State.enter_mbOpen (st : Stage) (p : Point) (s : State) : (s.enter st p).mbOpen = s.mbOpen := rfl
@[simp] theorem State.enter_pkt (st : Stage) (p : Point) (s : State) : (s.enter st p).pkt = s.pkt := rfl
@[simp] theorem State.enter_rx (st : Stage) (p : Point) (s : State) : (s.enter st p).rx = s.rx := rfl
@[simp] theorem State.enter_mval (st : Stage) (p : Point) (s : State) : (s.enter st p).mval = s.mval := rfl
@[simp] theorem State.enter_tval (st : Stage) (p : Point) (s : State) : (s.enter st p).tval = s.tval := rfl
@[simp] theorem State.enter_pval (st : Stage) (p : Point) (s : State) : (s.enter st p).pval = s.pval := rfl
@[simp] theorem State.enter_hostbuf (st : Stage) (p : Point) (s : State) : (s.enter st p).hostbuf = s.hostbuf := rfl
@[simp] theorem State.enter_inputs (st : Stage) (p : Point) (s : State) : (s.enter st p).inputs = s.inputs := rfl
@[simp] theorem State.enter_miso (st : Stage) (p : Point) (s : State) : (s.enter st p).miso = s.miso := rfl
@[simp] theorem State.enter_cd (st : Stage) (p : Point) (s : State) : (s.enter st p).cd = s.cd := rfl
@[simp] theorem State.enter_xchgs (st : Stage) (p : Point) (s : State) : (s.enter st p).xchgs = s.xchgs := rfl
@[simp] theorem State.enter_now (st : Stage) (p : Point) (s : State) : (s.enter st p).now = s.now := rfl
@[simp] theorem State.enter_draws (st : Stage) (p : Point) (s : State) : (s.enter st p).draws = s.draws := rfl
@[simp] theorem State.enter_rdata (st : Stage) (p : Point) (s : State) : (s.enter st p).rdata = s.rdata := rfl

/-! ### xchg -/

@[simp] theorem xchg_cfg (o : Byte) (s : State) : (xchg o s).cfg = s.cfg := rfl
@[simp] theorem xchg_opcode (o : Byte) (s : State) : (xchg o s).opcode = s.opcode := rfl
@[simp] theorem xchg_sector (o : Byte) (s : State) : (xchg o s).sector = s.sector := rfl
@[simp] theorem xchg_count (o : Byte) (s : State) : (xchg o s).count = s.count := rfl
@[simp] theorem xchg_len (o : Byte) (s : State) : (xchg o s).len = s.len := rfl
@[simp] theorem xchg_busy (o : Byte) (s : State) : (xchg o s).busy = s.busy := rfl
@[simp] theorem xchg_result (o : Byte) (s : State) : (xchg o s).result = s.result := rfl
@[simp] theorem xchg_value (o : Byte) (s : State) : (xchg o s).value = s.value := rfl
@[simp] theorem xchg_latOp (o : Byte) (s : State) : (xchg o s).latOp = s.latOp := rfl
@[simp] theorem xchg_latSector (o : Byte) (s : State) : (xchg o s).latSector = s.latSector := rfl
@[simp] theorem xchg_latCount (o : Byte) (s : State) : (xchg o s).latCount = s.latCount := rfl
@[simp] theorem xchg_latLen (o : Byte) (s : State) : (xchg o s).latLen = s.latLen := rfl
@[simp] theorem xchg_lifecycle (o : Byte) (s : State) : (xchg o s).lifecycle = s.lifecycle := rfl
@[simp] theorem xchg_blockAddr (o : Byte) (s : State) : (xchg o s).blockAddr = s.blockAddr := rfl
@[simp] theorem xchg_crcOn (o : Byte) (s : State) : (xchg o s).crcOn = s.crcOn := rfl
@[simp] theorem xchg_legacy (o : Byte) (s : State) : (xchg o s).legacy = s.legacy := rfl
@[simp] theorem xchg_scValid (o : Byte) (s : State) : (xchg o s).scValid = s.scValid := rfl
@[simp] theorem xchg_scValue (o : Byte) (s : State) : (xchg o s).scValue = s.scValue := rfl
@[simp] theorem xchg_cs (o : Byte) (s : State) : (xchg o s).cs = s.cs := rfl
@[simp] theorem xchg_clkFast (o : Byte) (s : State) : (xchg o s).clkFast = s.clkFast := rfl
@[simp] theorem xchg_mosi (o : Byte) (s : State) : (xchg o s).mosi = o := rfl
@[simp] theorem xchg_csdReg (o : Byte) (s : State) : (xchg o s).csdReg = s.csdReg := rfl
@[simp] theorem xchg_crc7r (o : Byte) (s : State) : (xchg o s).crc7r = s.crc7r := rfl
@[simp] theorem xchg_crc16r (o : Byte) (s : State) : (xchg o s).crc16r = s.crc16r := rfl
@[simp] theorem xchg_resp (o : Byte) (s : State) : (xchg o s).resp = s.resp := rfl
@[simp] theorem xchg_respx (o : Byte) (s : State) : (xchg o s).respx = s.respx := rfl
@[simp] theorem xchg_seq (o : Byte) (s : State) : (xchg o s).seq = ⟨s.seq.stage, s.seq.point, true⟩ := rfl
@[simp] theorem xchg_deadline (o : Byte) (s : State) : (xchg o s).deadline = s.deadline := rfl
@[simp] theorem xchg_attempt (o : Byte) (s : State) : (xchg o s).attempt = s.attempt := rfl
@[simp] theorem xchg_blkIdx (o : Byte) (s : State) : (xchg o s).blkIdx = s.blkIdx := rfl
@[simp] theorem xchg_byteIdx (o : Byte) (s : State) : (xchg o s).byteIdx = s.byteIdx := rfl
@[simp] theorem xchg_firstErr (o : Byte) (s : State) : (xchg o s).firstErr = s.firstErr := rfl
@[simp] theorem xchg_mbOpen (o : Byte) (s : State) : (xchg o s).mbOpen = s.mbOpen := rfl
@[simp] theorem xchg_pkt (o : Byte) (s : State) : (xchg o s).pkt = s.pkt := rfl
@[simp] theorem xchg_rx (o : Byte) (s : State) : (xchg o s).rx = s.nextMiso := rfl
@[simp] theorem xchg_mval (o : Byte) (s : State) : (xchg o s).mval = s.mval := rfl
@[simp] theorem xchg_tval (o : Byte) (s : State) : (xchg o s).tval = s.tval := rfl
@[simp] theorem xchg_pval (o : Byte) (s : State) : (xchg o s).pval = s.pval := rfl
@[simp] theorem xchg_hostbuf (o : Byte) (s : State) : (xchg o s).hostbuf = s.hostbuf := rfl
@[simp] theorem xchg_inputs (o : Byte) (s : State) : (xchg o s).inputs = s.inputs := rfl
@[simp] theorem xchg_miso (o : Byte) (s : State) : (xchg o s).miso = s.miso.tail := rfl
@[simp] theorem xchg_cd (o : Byte) (s : State) : (xchg o s).cd = s.cd := rfl
@[simp] theorem xchg_xchgs (o : Byte) (s : State) : (xchg o s).xchgs = s.xchgs + 1 := rfl
@[simp] theorem xchg_now (o : Byte) (s : State) : (xchg o s).now = s.now := rfl
@[simp] theorem xchg_draws (o : Byte) (s : State) : (xchg o s).draws = s.drawsAfterXchg := rfl
@[simp] theorem xchg_rdata (o : Byte) (s : State) : (xchg o s).rdata = s.rdata := rfl

/-! ### sampleNow -/

@[simp] theorem sampleNow_cfg (s : State) : (sampleNow s).cfg = s.cfg := by unfold sampleNow; split <;> rfl
@[simp] theorem sampleNow_opcode (s : State) : (sampleNow s).opcode = s.opcode := by unfold sampleNow; split <;> rfl
@[simp] theorem sampleNow_sector (s : State) : (sampleNow s).sector = s.sector := by unfold sampleNow; split <;> rfl
@[simp] theorem sampleNow_count (s : State) : (sampleNow s).count = s.count := by unfold sampleNow; split <;> rfl
@[simp] theorem sampleNow_len (s : State) : (sampleNow s).len = s.len := by unfold sampleNow; split <;> rfl
@[simp] theorem sampleNow_busy (s : State) : (sampleNow s).busy = s.busy := by unfold sampleNow; split <;> rfl
@[simp] theorem sampleNow_result (s : State) : (sampleNow s).result = s.result := by unfold sampleNow; split <;> rfl
@[simp] theorem sampleNow_value (s : State) : (sampleNow s).value = s.value := by unfold sampleNow; split <;> rfl
@[simp] theorem sampleNow_latOp (s : State) : (sampleNow s).latOp = s.latOp := by unfold sampleNow; split <;> rfl
@[simp] theorem sampleNow_latSector (s : State) : (sampleNow s).latSector = s.latSector := by unfold sampleNow; split <;> rfl
@[simp] theorem sampleNow_latCount (s : State) : (sampleNow s).latCount = s.latCount := by unfold sampleNow; split <;> rfl
@[simp] theorem sampleNow_latLen (s : State) : (sampleNow s).latLen = s.latLen := by unfold sampleNow; split <;> rfl
@[simp] theorem sampleNow_lifecycle (s : State) : (sampleNow s).lifecycle = s.lifecycle := by unfold sampleNow; split <;> rfl
@[simp] theorem sampleNow_blockAddr (s : State) : (sampleNow s).blockAddr = s.blockAddr := by unfold sampleNow; split <;> rfl
@[simp] theorem sampleNow_crcOn (s : State) : (sampleNow s).crcOn = s.crcOn := by unfold sampleNow; split <;> rfl
@[simp] theorem sampleNow_legacy (s : State) : (sampleNow s).legacy = s.legacy := by unfold sampleNow; split <;> rfl
@[simp] theorem sampleNow_scValid (s : State) : (sampleNow s).scValid = s.scValid := by unfold sampleNow; split <;> rfl
@[simp] theorem sampleNow_scValue (s : State) : (sampleNow s).scValue = s.scValue := by unfold sampleNow; split <;> rfl
@[simp] theorem sampleNow_cs (s : State) : (sampleNow s).cs = s.cs := by unfold sampleNow; split <;> rfl
@[simp] theorem sampleNow_clkFast (s : State) : (sampleNow s).clkFast = s.clkFast := by unfold sampleNow; split <;> rfl
@[simp] theorem sampleNow_mosi (s : State) : (sampleNow s).mosi = s.mosi := by unfold sampleNow; split <;> rfl
@[simp] theorem sampleNow_csdReg (s : State) : (sampleNow s).csdReg = s.csdReg := by unfold sampleNow; split <;> rfl
@[simp] theorem sampleNow_crc7r (s : State) : (sampleNow s).crc7r = s.crc7r := by unfold sampleNow; split <;> rfl
@[simp] theorem sampleNow_crc16r (s : State) : (sampleNow s).crc16r = s.crc16r := by unfold sampleNow; split <;> rfl
@[simp] theorem sampleNow_resp (s : State) : (sampleNow s).resp = s.resp := by unfold sampleNow; split <;> rfl
@[simp] theorem sampleNow_respx (s : State) : (sampleNow s).respx = s.respx := by unfold sampleNow; split <;> rfl
@[simp] theorem sampleNow_seq (s : State) : (sampleNow s).seq = ⟨s.seq.stage, s.seq.point, true⟩ := by unfold sampleNow; split <;> rfl
@[simp] theorem sampleNow_deadline (s : State) : (sampleNow s).deadline = s.deadline := by unfold sampleNow; split <;> rfl
@[simp] theorem sampleNow_attempt (s : State) : (sampleNow s).attempt = s.attempt := by unfold sampleNow; split <;> rfl
@[simp] theorem sampleNow_blkIdx (s : State) : (sampleNow s).blkIdx = s.blkIdx := by unfold sampleNow; split <;> rfl
@[simp] theorem sampleNow_byteIdx (s : State) : (sampleNow s).byteIdx = s.byteIdx := by unfold sampleNow; split <;> rfl
@[simp] theorem sampleNow_firstErr (s : State) : (sampleNow s).firstErr = s.firstErr := by unfold sampleNow; split <;> rfl
@[simp] theorem sampleNow_mbOpen (s : State) : (sampleNow s).mbOpen = s.mbOpen := by unfold sampleNow; split <;> rfl
@[simp] theorem sampleNow_pkt (s : State) : (sampleNow s).pkt = s.pkt := by unfold sampleNow; split <;> rfl
@[simp] theorem sampleNow_rx (s : State) : (sampleNow s).rx = s.rx := by unfold sampleNow; split <;> rfl
@[simp] theorem sampleNow_mval (s : State) : (sampleNow s).mval = s.mval := by unfold sampleNow; split <;> rfl
@[simp] theorem sampleNow_tval (s : State) : (sampleNow s).tval = s.timeNow := by unfold sampleNow; split <;> rfl
@[simp] theorem sampleNow_pval (s : State) : (sampleNow s).pval = s.pval := by unfold sampleNow; split <;> rfl
@[simp] theorem sampleNow_hostbuf (s : State) : (sampleNow s).hostbuf = s.hostbuf := by unfold sampleNow; split <;> rfl
@[simp] theorem sampleNow_inputs (s : State) : (sampleNow s).inputs = s.inputs := by unfold sampleNow; split <;> rfl
@[simp] theorem sampleNow_miso (s : State) : (sampleNow s).miso = s.miso := by unfold sampleNow; split <;> rfl
@[simp] theorem sampleNow_cd (s : State) : (sampleNow s).cd = s.cd := by unfold sampleNow; split <;> rfl
@[simp] theorem sampleNow_xchgs (s : State) : (sampleNow s).xchgs = s.xchgs := by unfold sampleNow; split <;> rfl
@[simp] theorem sampleNow_rdata (s : State) : (sampleNow s).rdata = s.rdata := by unfold sampleNow; split <;> rfl

/-! ### samplePresent -/

@[simp] theorem samplePresent_cfg (s : State) : (samplePresent s).cfg = s.cfg := rfl
@[simp] theorem samplePresent_opcode (s : State) : (samplePresent s).opcode = s.opcode := rfl
@[simp] theorem samplePresent_sector (s : State) : (samplePresent s).sector = s.sector := rfl
@[simp] theorem samplePresent_count (s : State) : (samplePresent s).count = s.count := rfl
@[simp] theorem samplePresent_len (s : State) : (samplePresent s).len = s.len := rfl
@[simp] theorem samplePresent_busy (s : State) : (samplePresent s).busy = s.busy := rfl
@[simp] theorem samplePresent_result (s : State) : (samplePresent s).result = s.result := rfl
@[simp] theorem samplePresent_value (s : State) : (samplePresent s).value = s.value := rfl
@[simp] theorem samplePresent_latOp (s : State) : (samplePresent s).latOp = s.latOp := rfl
@[simp] theorem samplePresent_latSector (s : State) : (samplePresent s).latSector = s.latSector := rfl
@[simp] theorem samplePresent_latCount (s : State) : (samplePresent s).latCount = s.latCount := rfl
@[simp] theorem samplePresent_latLen (s : State) : (samplePresent s).latLen = s.latLen := rfl
@[simp] theorem samplePresent_lifecycle (s : State) : (samplePresent s).lifecycle = s.lifecycle := rfl
@[simp] theorem samplePresent_blockAddr (s : State) : (samplePresent s).blockAddr = s.blockAddr := rfl
@[simp] theorem samplePresent_crcOn (s : State) : (samplePresent s).crcOn = s.crcOn := rfl
@[simp] theorem samplePresent_legacy (s : State) : (samplePresent s).legacy = s.legacy := rfl
@[simp] theorem samplePresent_scValid (s : State) : (samplePresent s).scValid = s.scValid := rfl
@[simp] theorem samplePresent_scValue (s : State) : (samplePresent s).scValue = s.scValue := rfl
@[simp] theorem samplePresent_cs (s : State) : (samplePresent s).cs = s.cs := rfl
@[simp] theorem samplePresent_clkFast (s : State) : (samplePresent s).clkFast = s.clkFast := rfl
@[simp] theorem samplePresent_mosi (s : State) : (samplePresent s).mosi = s.mosi := rfl
@[simp] theorem samplePresent_csdReg (s : State) : (samplePresent s).csdReg = s.csdReg := rfl
@[simp] theorem samplePresent_crc7r (s : State) : (samplePresent s).crc7r = s.crc7r := rfl
@[simp] theorem samplePresent_crc16r (s : State) : (samplePresent s).crc16r = s.crc16r := rfl
@[simp] theorem samplePresent_resp (s : State) : (samplePresent s).resp = s.resp := rfl
@[simp] theorem samplePresent_respx (s : State) : (samplePresent s).respx = s.respx := rfl
@[simp] theorem samplePresent_seq (s : State) : (samplePresent s).seq = ⟨s.seq.stage, s.seq.point, true⟩ := rfl
@[simp] theorem samplePresent_deadline (s : State) : (samplePresent s).deadline = s.deadline := rfl
@[simp] theorem samplePresent_attempt (s : State) : (samplePresent s).attempt = s.attempt := rfl
@[simp] theorem samplePresent_blkIdx (s : State) : (samplePresent s).blkIdx = s.blkIdx := rfl
@[simp] theorem samplePresent_byteIdx (s : State) : (samplePresent s).byteIdx = s.byteIdx := rfl
@[simp] theorem samplePresent_firstErr (s : State) : (samplePresent s).firstErr = s.firstErr := rfl
@[simp] theorem samplePresent_mbOpen (s : State) : (samplePresent s).mbOpen = s.mbOpen := rfl
@[simp] theorem samplePresent_pkt (s : State) : (samplePresent s).pkt = s.pkt := rfl
@[simp] theorem samplePresent_rx (s : State) : (samplePresent s).rx = s.rx := rfl
@[simp] theorem samplePresent_mval (s : State) : (samplePresent s).mval = s.mval := rfl
@[simp] theorem samplePresent_tval (s : State) : (samplePresent s).tval = s.tval := rfl
@[simp] theorem samplePresent_pval (s : State) : (samplePresent s).pval = s.cd := rfl
@[simp] theorem samplePresent_hostbuf (s : State) : (samplePresent s).hostbuf = s.hostbuf := rfl
@[simp] theorem samplePresent_inputs (s : State) : (samplePresent s).inputs = s.inputs := rfl
@[simp] theorem samplePresent_miso (s : State) : (samplePresent s).miso = s.miso := rfl
@[simp] theorem samplePresent_cd (s : State) : (samplePresent s).cd = s.cd := rfl
@[simp] theorem samplePresent_xchgs (s : State) : (samplePresent s).xchgs = s.xchgs := rfl
@[simp] theorem samplePresent_now (s : State) : (samplePresent s).now = s.now := rfl
@[simp] theorem samplePresent_draws (s : State) : (samplePresent s).draws = s.draws := rfl
@[simp] theorem samplePresent_rdata (s : State) : (samplePresent s).rdata = s.rdata := rfl

/-! ### setCs -/

@[simp] theorem setCs_cfg (v : Bool) (s : State) : (setCs v s).cfg = s.cfg := rfl
@[simp] theorem setCs_opcode (v : Bool) (s : State) : (setCs v s).opcode = s.opcode := rfl
@[simp] theorem setCs_sector (v : Bool) (s : State) : (setCs v s).sector = s.sector := rfl
@[simp] theorem setCs_count (v : Bool) (s : State) : (setCs v s).count = s.count := rfl
@[simp] theorem setCs_len (v : Bool) (s : State) : (setCs v s).len = s.len := rfl
@[simp] theorem setCs_busy (v : Bool) (s : State) : (setCs v s).busy = s.busy := rfl
@[simp] theorem setCs_result (v : Bool) (s : State) : (setCs v s).result = s.result := rfl
@[simp] theorem setCs_value (v : Bool) (s : State) : (setCs v s).value = s.value := rfl
@[simp] theorem setCs_latOp (v : Bool) (s : State) : (setCs v s).latOp = s.latOp := rfl
@[simp] theorem setCs_latSector (v : Bool) (s : State) : (setCs v s).latSector = s.latSector := rfl
@[simp] theorem setCs_latCount (v : Bool) (s : State) : (setCs v s).latCount = s.latCount := rfl
@[simp] theorem setCs_latLen (v : Bool) (s : State) : (setCs v s).latLen = s.latLen := rfl
@[simp] theorem setCs_lifecycle (v : Bool) (s : State) : (setCs v s).lifecycle = s.lifecycle := rfl
@[simp] theorem setCs_blockAddr (v : Bool) (s : State) : (setCs v s).blockAddr = s.blockAddr := rfl
@[simp] theorem setCs_crcOn (v : Bool) (s : State) : (setCs v s).crcOn = s.crcOn := rfl
@[simp] theorem setCs_legacy (v : Bool) (s : State) : (setCs v s).legacy = s.legacy := rfl
@[simp] theorem setCs_scValid (v : Bool) (s : State) : (setCs v s).scValid = s.scValid := rfl
@[simp] theorem setCs_scValue (v : Bool) (s : State) : (setCs v s).scValue = s.scValue := rfl
@[simp] theorem setCs_cs (v : Bool) (s : State) : (setCs v s).cs = v := rfl
@[simp] theorem setCs_clkFast (v : Bool) (s : State) : (setCs v s).clkFast = s.clkFast := rfl
@[simp] theorem setCs_mosi (v : Bool) (s : State) : (setCs v s).mosi = s.mosi := rfl
@[simp] theorem setCs_csdReg (v : Bool) (s : State) : (setCs v s).csdReg = s.csdReg := rfl
@[simp] theorem setCs_crc7r (v : Bool) (s : State) : (setCs v s).crc7r = s.crc7r := rfl
@[simp] theorem setCs_crc16r (v : Bool) (s : State) : (setCs v s).crc16r = s.crc16r := rfl
@[simp] theorem setCs_resp (v : Bool) (s : State) : (setCs v s).resp = s.resp := rfl
@[simp] theorem setCs_respx (v : Bool) (s : State) : (setCs v s).respx = s.respx := rfl
@[simp] theorem setCs_seq (v : Bool) (s : State) : (setCs v s).seq = ⟨s.seq.stage, s.seq.point, true⟩ := rfl
@[simp] theorem setCs_deadline (v : Bool) (s : State) : (setCs v s).deadline = s.deadline := rfl
@[simp] theorem setCs_attempt (v : Bool) (s : State) : (setCs v s).attempt = s.attempt := rfl
@[simp] theorem setCs_blkIdx (v : Bool) (s : State) : (setCs v s).blkIdx = s.blkIdx := rfl
@[simp] theorem setCs_byteIdx (v : Bool) (s : State) : (setCs v s).byteIdx = s.byteIdx := rfl
@[simp] theorem setCs_firstErr (v : Bool) (s : State) : (setCs v s).firstErr = s.firstErr := rfl
@[simp] theorem setCs_mbOpen (v : Bool) (s : State) : (setCs v s).mbOpen = s.mbOpen := rfl
@[simp] theorem setCs_pkt (v : Bool) (s : State) : (setCs v s).pkt = s.pkt := rfl
@[simp] theorem setCs_rx (v : Bool) (s : State) : (setCs v s).rx = s.rx := rfl
@[simp] theorem setCs_mval (v : Bool) (s : State) : (setCs v s).mval = s.mval := rfl
@[simp] theorem setCs_tval (v : Bool) (s : State) : (setCs v s).tval = s.tval := rfl
@[simp] theorem setCs_pval (v : Bool) (s : State) : (setCs v s).pval = s.pval := rfl
@[simp] theorem setCs_hostbuf (v : Bool) (s : State) : (setCs v s).hostbuf = s.hostbuf := rfl
@[simp] theorem setCs_inputs (v : Bool) (s : State) : (setCs v s).inputs = s.inputs := rfl
@[simp] theorem setCs_miso (v : Bool) (s : State) : (setCs v s).miso = s.miso := rfl
@[simp] theorem setCs_cd (v : Bool) (s : State) : (setCs v s).cd = s.cd := rfl
@[simp] theorem setCs_xchgs (v : Bool) (s : State) : (setCs v s).xchgs = s.xchgs := rfl
@[simp] theorem setCs_now (v : Bool) (s : State) : (setCs v s).now = s.now := rfl
@[simp] theorem setCs_draws (v : Bool) (s : State) : (setCs v s).draws = s.draws := rfl
@[simp] theorem setCs_rdata (v : Bool) (s : State) : (setCs v s).rdata = s.rdata := rfl

/-! ### setClk -/

@[simp] theorem setClk_cfg (v : Bool) (s : State) : (setClk v s).cfg = s.cfg := rfl
@[simp] theorem setClk_opcode (v : Bool) (s : State) : (setClk v s).opcode = s.opcode := rfl
@[simp] theorem setClk_sector (v : Bool) (s : State) : (setClk v s).sector = s.sector := rfl
@[simp] theorem setClk_count (v : Bool) (s : State) : (setClk v s).count = s.count := rfl
@[simp] theorem setClk_len (v : Bool) (s : State) : (setClk v s).len = s.len := rfl
@[simp] theorem setClk_busy (v : Bool) (s : State) : (setClk v s).busy = s.busy := rfl
@[simp] theorem setClk_result (v : Bool) (s : State) : (setClk v s).result = s.result := rfl
@[simp] theorem setClk_value (v : Bool) (s : State) : (setClk v s).value = s.value := rfl
@[simp] theorem setClk_latOp (v : Bool) (s : State) : (setClk v s).latOp = s.latOp := rfl
@[simp] theorem setClk_latSector (v : Bool) (s : State) : (setClk v s).latSector = s.latSector := rfl
@[simp] theorem setClk_latCount (v : Bool) (s : State) : (setClk v s).latCount = s.latCount := rfl
@[simp] theorem setClk_latLen (v : Bool) (s : State) : (setClk v s).latLen = s.latLen := rfl
@[simp] theorem setClk_lifecycle (v : Bool) (s : State) : (setClk v s).lifecycle = s.lifecycle := rfl
@[simp] theorem setClk_blockAddr (v : Bool) (s : State) : (setClk v s).blockAddr = s.blockAddr := rfl
@[simp] theorem setClk_crcOn (v : Bool) (s : State) : (setClk v s).crcOn = s.crcOn := rfl
@[simp] theorem setClk_legacy (v : Bool) (s : State) : (setClk v s).legacy = s.legacy := rfl
@[simp] theorem setClk_scValid (v : Bool) (s : State) : (setClk v s).scValid = s.scValid := rfl
@[simp] theorem setClk_scValue (v : Bool) (s : State) : (setClk v s).scValue = s.scValue := rfl
@[simp] theorem setClk_cs (v : Bool) (s : State) : (setClk v s).cs = s.cs := rfl
@[simp] theorem setClk_clkFast (v : Bool) (s : State) : (setClk v s).clkFast = v := rfl
@[simp] theorem setClk_mosi (v : Bool) (s : State) : (setClk v s).mosi = s.mosi := rfl
@[simp] theorem setClk_csdReg (v : Bool) (s : State) : (setClk v s).csdReg = s.csdReg := rfl
@[simp] theorem setClk_crc7r (v : Bool) (s : State) : (setClk v s).crc7r = s.crc7r := rfl
@[simp] theorem setClk_crc16r (v : Bool) (s : State) : (setClk v s).crc16r = s.crc16r := rfl
@[simp] theorem setClk_resp (v : Bool) (s : State) : (setClk v s).resp = s.resp := rfl
@[simp] theorem setClk_respx (v : Bool) (s : State) : (setClk v s).respx = s.respx := rfl
@[simp] theorem setClk_seq (v : Bool) (s : State) : (setClk v s).seq = ⟨s.seq.stage, s.seq.point, true⟩ := rfl
@[simp] theorem setClk_deadline (v : Bool) (s : State) : (setClk v s).deadline = s.deadline := rfl
@[simp] theorem setClk_attempt (v : Bool) (s : State) : (setClk v s).attempt = s.attempt := rfl
@[simp] theorem setClk_blkIdx (v : Bool) (s : State) : (setClk v s).blkIdx = s.blkIdx := rfl
@[simp] theorem setClk_byteIdx (v : Bool) (s : State) : (setClk v s).byteIdx = s.byteIdx := rfl
@[simp] theorem setClk_firstErr (v : Bool) (s : State) : (setClk v s).firstErr = s.firstErr := rfl
@[simp] theorem setClk_mbOpen (v : Bool) (s : State) : (setClk v s).mbOpen = s.mbOpen := rfl
@[simp] theorem setClk_pkt (v : Bool) (s : State) : (setClk v s).pkt = s.pkt := rfl
@[simp] theorem setClk_rx (v : Bool) (s : State) : (setClk v s).rx = s.rx := rfl
@[simp] theorem setClk_mval (v : Bool) (s : State) : (setClk v s).mval = s.mval := rfl
@[simp] theorem setClk_tval (v : Bool) (s : State) : (setClk v s).tval = s.tval := rfl
@[simp] theorem setClk_pval (v : Bool) (s : State) : (setClk v s).pval = s.pval := rfl
@[simp] theorem setClk_hostbuf (v : Bool) (s : State) : (setClk v s).hostbuf = s.hostbuf := rfl
@[simp] theorem setClk_inputs (v : Bool) (s : State) : (setClk v s).inputs = s.inputs := rfl
@[simp] theorem setClk_miso (v : Bool) (s : State) : (setClk v s).miso = s.miso := rfl
@[simp] theorem setClk_cd (v : Bool) (s : State) : (setClk v s).cd = s.cd := rfl
@[simp] theorem setClk_xchgs (v : Bool) (s : State) : (setClk v s).xchgs = s.xchgs := rfl
@[simp] theorem setClk_now (v : Bool) (s : State) : (setClk v s).now = s.now := rfl
@[simp] theorem setClk_draws (v : Bool) (s : State) : (setClk v s).draws = s.draws := rfl
@[simp] theorem setClk_rdata (v : Bool) (s : State) : (setClk v s).rdata = s.rdata := rfl

/-! ### complete -/

@[simp] theorem complete_cfg (e : Err) (v : Word) (s : State) : (complete e v s).cfg = s.cfg := rfl
@[simp] theorem complete_opcode (e : Err) (v : Word) (s : State) : (complete e v s).opcode = s.opcode := rfl
@[simp] theorem complete_sector (e : Err) (v : Word) (s : State) : (complete e v s).sector = s.sector := rfl
@[simp] theorem complete_count (e : Err) (v : Word) (s : State) : (complete e v s).count = s.count := rfl
@[simp] theorem complete_len (e : Err) (v : Word) (s : State) : (complete e v s).len = s.len := rfl
@[simp] theorem complete_busy (e : Err) (v : Word) (s : State) : (complete e v s).busy = false := rfl
@[simp] theorem complete_result (e : Err) (v : Word) (s : State) : (complete e v s).result = e := rfl
@[simp] theorem complete_value (e : Err) (v : Word) (s : State) : (complete e v s).value = if e = .ok then v else 0 := rfl
@[simp] theorem complete_latOp (e : Err) (v : Word) (s : State) : (complete e v s).latOp = s.latOp := rfl
@[simp] theorem complete_latSector (e : Err) (v : Word) (s : State) : (complete e v s).latSector = s.latSector := rfl
@[simp] theorem complete_latCount (e : Err) (v : Word) (s : State) : (complete e v s).latCount = s.latCount := rfl
@[simp] theorem complete_latLen (e : Err) (v : Word) (s : State) : (complete e v s).latLen = s.latLen := rfl
@[simp] theorem complete_lifecycle (e : Err) (v : Word) (s : State) : (complete e v s).lifecycle = s.lifecycle := rfl
@[simp] theorem complete_blockAddr (e : Err) (v : Word) (s : State) : (complete e v s).blockAddr = s.blockAddr := rfl
@[simp] theorem complete_crcOn (e : Err) (v : Word) (s : State) : (complete e v s).crcOn = s.crcOn := rfl
@[simp] theorem complete_legacy (e : Err) (v : Word) (s : State) : (complete e v s).legacy = s.legacy := rfl
@[simp] theorem complete_scValid (e : Err) (v : Word) (s : State) : (complete e v s).scValid = s.scValid := rfl
@[simp] theorem complete_scValue (e : Err) (v : Word) (s : State) : (complete e v s).scValue = s.scValue := rfl
@[simp] theorem complete_cs (e : Err) (v : Word) (s : State) : (complete e v s).cs = s.cs := rfl
@[simp] theorem complete_clkFast (e : Err) (v : Word) (s : State) : (complete e v s).clkFast = s.clkFast := rfl
@[simp] theorem complete_mosi (e : Err) (v : Word) (s : State) : (complete e v s).mosi = s.mosi := rfl
@[simp] theorem complete_csdReg (e : Err) (v : Word) (s : State) : (complete e v s).csdReg = s.csdReg := rfl
@[simp] theorem complete_crc7r (e : Err) (v : Word) (s : State) : (complete e v s).crc7r = s.crc7r := rfl
@[simp] theorem complete_crc16r (e : Err) (v : Word) (s : State) : (complete e v s).crc16r = s.crc16r := rfl
@[simp] theorem complete_resp (e : Err) (v : Word) (s : State) : (complete e v s).resp = s.resp := rfl
@[simp] theorem complete_respx (e : Err) (v : Word) (s : State) : (complete e v s).respx = s.respx := rfl
@[simp] theorem complete_seq (e : Err) (v : Word) (s : State) : (complete e v s).seq = Seq.idle := rfl
@[simp] theorem complete_deadline (e : Err) (v : Word) (s : State) : (complete e v s).deadline = Config.freeNat s.draws := rfl
@[simp] theorem complete_attempt (e : Err) (v : Word) (s : State) : (complete e v s).attempt = Config.freeNat (s.draws + 1) := rfl
@[simp] theorem complete_blkIdx (e : Err) (v : Word) (s : State) : (complete e v s).blkIdx = Config.freeNat (s.draws + 2) := rfl
@[simp] theorem complete_byteIdx (e : Err) (v : Word) (s : State) : (complete e v s).byteIdx = Config.freeNat (s.draws + 3) := rfl
@[simp] theorem complete_firstErr (e : Err) (v : Word) (s : State) : (complete e v s).firstErr = Config.freeErr s.draws := rfl
@[simp] theorem complete_mbOpen (e : Err) (v : Word) (s : State) : (complete e v s).mbOpen = s.mbOpen := rfl
@[simp] theorem complete_pkt (e : Err) (v : Word) (s : State) : (complete e v s).pkt = s.pkt := rfl
@[simp] theorem complete_rx (e : Err) (v : Word) (s : State) : (complete e v s).rx = s.rx := rfl
@[simp] theorem complete_mval (e : Err) (v : Word) (s : State) : (complete e v s).mval = s.mval := rfl
@[simp] theorem complete_tval (e : Err) (v : Word) (s : State) : (complete e v s).tval = s.tval := rfl
@[simp] theorem complete_pval (e : Err) (v : Word) (s : State) : (complete e v s).pval = s.pval := rfl
@[simp] theorem complete_hostbuf (e : Err) (v : Word) (s : State) : (complete e v s).hostbuf = s.hostbuf := rfl
@[simp] theorem complete_inputs (e : Err) (v : Word) (s : State) : (complete e v s).inputs = s.inputs := rfl
@[simp] theorem complete_miso (e : Err) (v : Word) (s : State) : (complete e v s).miso = s.miso := rfl
@[simp] theorem complete_cd (e : Err) (v : Word) (s : State) : (complete e v s).cd = s.cd := rfl
@[simp] theorem complete_xchgs (e : Err) (v : Word) (s : State) : (complete e v s).xchgs = s.xchgs := rfl
@[simp] theorem complete_now (e : Err) (v : Word) (s : State) : (complete e v s).now = s.now := rfl
@[simp] theorem complete_draws (e : Err) (v : Word) (s : State) : (complete e v s).draws = s.draws + 4 := rfl
@[simp] theorem complete_rdata (e : Err) (v : Word) (s : State) : (complete e v s).rdata = s.rdata := rfl

/-! ### clearSession -/

@[simp] theorem clearSession_cfg (s : State) : (clearSession s).cfg = s.cfg := rfl
@[simp] theorem clearSession_opcode (s : State) : (clearSession s).opcode = s.opcode := rfl
@[simp] theorem clearSession_sector (s : State) : (clearSession s).sector = s.sector := rfl
@[simp] theorem clearSession_count (s : State) : (clearSession s).count = s.count := rfl
@[simp] theorem clearSession_len (s : State) : (clearSession s).len = s.len := rfl
@[simp] theorem clearSession_busy (s : State) : (clearSession s).busy = s.busy := rfl
@[simp] theorem clearSession_result (s : State) : (clearSession s).result = s.result := rfl
@[simp] theorem clearSession_value (s : State) : (clearSession s).value = s.value := rfl
@[simp] theorem clearSession_latOp (s : State) : (clearSession s).latOp = s.latOp := rfl
@[simp] theorem clearSession_latSector (s : State) : (clearSession s).latSector = s.latSector := rfl
@[simp] theorem clearSession_latCount (s : State) : (clearSession s).latCount = s.latCount := rfl
@[simp] theorem clearSession_latLen (s : State) : (clearSession s).latLen = s.latLen := rfl
@[simp] theorem clearSession_lifecycle (s : State) : (clearSession s).lifecycle = .uninit := rfl
@[simp] theorem clearSession_blockAddr (s : State) : (clearSession s).blockAddr = false := rfl
@[simp] theorem clearSession_crcOn (s : State) : (clearSession s).crcOn = false := rfl
@[simp] theorem clearSession_legacy (s : State) : (clearSession s).legacy = false := rfl
@[simp] theorem clearSession_scValid (s : State) : (clearSession s).scValid = false := rfl
@[simp] theorem clearSession_scValue (s : State) : (clearSession s).scValue = 0 := rfl
@[simp] theorem clearSession_cs (s : State) : (clearSession s).cs = s.cs := rfl
@[simp] theorem clearSession_clkFast (s : State) : (clearSession s).clkFast = s.clkFast := rfl
@[simp] theorem clearSession_mosi (s : State) : (clearSession s).mosi = s.mosi := rfl
@[simp] theorem clearSession_csdReg (s : State) : (clearSession s).csdReg = s.csdReg := rfl
@[simp] theorem clearSession_crc7r (s : State) : (clearSession s).crc7r = s.crc7r := rfl
@[simp] theorem clearSession_crc16r (s : State) : (clearSession s).crc16r = s.crc16r := rfl
@[simp] theorem clearSession_resp (s : State) : (clearSession s).resp = s.resp := rfl
@[simp] theorem clearSession_respx (s : State) : (clearSession s).respx = s.respx := rfl
@[simp] theorem clearSession_seq (s : State) : (clearSession s).seq = s.seq := rfl
@[simp] theorem clearSession_deadline (s : State) : (clearSession s).deadline = s.deadline := rfl
@[simp] theorem clearSession_attempt (s : State) : (clearSession s).attempt = s.attempt := rfl
@[simp] theorem clearSession_blkIdx (s : State) : (clearSession s).blkIdx = s.blkIdx := rfl
@[simp] theorem clearSession_byteIdx (s : State) : (clearSession s).byteIdx = s.byteIdx := rfl
@[simp] theorem clearSession_firstErr (s : State) : (clearSession s).firstErr = s.firstErr := rfl
@[simp] theorem clearSession_mbOpen (s : State) : (clearSession s).mbOpen = s.mbOpen := rfl
@[simp] theorem clearSession_pkt (s : State) : (clearSession s).pkt = s.pkt := rfl
@[simp] theorem clearSession_rx (s : State) : (clearSession s).rx = s.rx := rfl
@[simp] theorem clearSession_mval (s : State) : (clearSession s).mval = s.mval := rfl
@[simp] theorem clearSession_tval (s : State) : (clearSession s).tval = s.tval := rfl
@[simp] theorem clearSession_pval (s : State) : (clearSession s).pval = s.pval := rfl
@[simp] theorem clearSession_hostbuf (s : State) : (clearSession s).hostbuf = s.hostbuf := rfl
@[simp] theorem clearSession_inputs (s : State) : (clearSession s).inputs = s.inputs := rfl
@[simp] theorem clearSession_miso (s : State) : (clearSession s).miso = s.miso := rfl
@[simp] theorem clearSession_cd (s : State) : (clearSession s).cd = s.cd := rfl
@[simp] theorem clearSession_xchgs (s : State) : (clearSession s).xchgs = s.xchgs := rfl
@[simp] theorem clearSession_now (s : State) : (clearSession s).now = s.now := rfl
@[simp] theorem clearSession_draws (s : State) : (clearSession s).draws = s.draws := rfl
@[simp] theorem clearSession_rdata (s : State) : (clearSession s).rdata = s.rdata := rfl

/-! ### sendCommand -/

@[simp] theorem sendCommand_cfg (st : Stage) (idx : BitVec 6) (arg : Word) (s : State) : (sendCommand st idx arg s).cfg = s.cfg := rfl
@[simp] theorem sendCommand_opcode (st : Stage) (idx : BitVec 6) (arg : Word) (s : State) : (sendCommand st idx arg s).opcode = s.opcode := rfl
@[simp] theorem sendCommand_sector (st : Stage) (idx : BitVec 6) (arg : Word) (s : State) : (sendCommand st idx arg s).sector = s.sector := rfl
@[simp] theorem sendCommand_count (st : Stage) (idx : BitVec 6) (arg : Word) (s : State) : (sendCommand st idx arg s).count = s.count := rfl
@[simp] theorem sendCommand_len (st : Stage) (idx : BitVec 6) (arg : Word) (s : State) : (sendCommand st idx arg s).len = s.len := rfl
@[simp] theorem sendCommand_busy (st : Stage) (idx : BitVec 6) (arg : Word) (s : State) : (sendCommand st idx arg s).busy = s.busy := rfl
@[simp] theorem sendCommand_result (st : Stage) (idx : BitVec 6) (arg : Word) (s : State) : (sendCommand st idx arg s).result = s.result := rfl
@[simp] theorem sendCommand_value (st : Stage) (idx : BitVec 6) (arg : Word) (s : State) : (sendCommand st idx arg s).value = s.value := rfl
@[simp] theorem sendCommand_latOp (st : Stage) (idx : BitVec 6) (arg : Word) (s : State) : (sendCommand st idx arg s).latOp = s.latOp := rfl
@[simp] theorem sendCommand_latSector (st : Stage) (idx : BitVec 6) (arg : Word) (s : State) : (sendCommand st idx arg s).latSector = s.latSector := rfl
@[simp] theorem sendCommand_latCount (st : Stage) (idx : BitVec 6) (arg : Word) (s : State) : (sendCommand st idx arg s).latCount = s.latCount := rfl
@[simp] theorem sendCommand_latLen (st : Stage) (idx : BitVec 6) (arg : Word) (s : State) : (sendCommand st idx arg s).latLen = s.latLen := rfl
@[simp] theorem sendCommand_lifecycle (st : Stage) (idx : BitVec 6) (arg : Word) (s : State) : (sendCommand st idx arg s).lifecycle = s.lifecycle := rfl
@[simp] theorem sendCommand_blockAddr (st : Stage) (idx : BitVec 6) (arg : Word) (s : State) : (sendCommand st idx arg s).blockAddr = s.blockAddr := rfl
@[simp] theorem sendCommand_crcOn (st : Stage) (idx : BitVec 6) (arg : Word) (s : State) : (sendCommand st idx arg s).crcOn = s.crcOn := rfl
@[simp] theorem sendCommand_legacy (st : Stage) (idx : BitVec 6) (arg : Word) (s : State) : (sendCommand st idx arg s).legacy = s.legacy := rfl
@[simp] theorem sendCommand_scValid (st : Stage) (idx : BitVec 6) (arg : Word) (s : State) : (sendCommand st idx arg s).scValid = s.scValid := rfl
@[simp] theorem sendCommand_scValue (st : Stage) (idx : BitVec 6) (arg : Word) (s : State) : (sendCommand st idx arg s).scValue = s.scValue := rfl
@[simp] theorem sendCommand_cs (st : Stage) (idx : BitVec 6) (arg : Word) (s : State) : (sendCommand st idx arg s).cs = s.cs := rfl
@[simp] theorem sendCommand_clkFast (st : Stage) (idx : BitVec 6) (arg : Word) (s : State) : (sendCommand st idx arg s).clkFast = s.clkFast := rfl
@[simp] theorem sendCommand_mosi (st : Stage) (idx : BitVec 6) (arg : Word) (s : State) : (sendCommand st idx arg s).mosi = s.mosi := rfl
@[simp] theorem sendCommand_csdReg (st : Stage) (idx : BitVec 6) (arg : Word) (s : State) : (sendCommand st idx arg s).csdReg = s.csdReg := rfl
@[simp] theorem sendCommand_crc7r (st : Stage) (idx : BitVec 6) (arg : Word) (s : State) : (sendCommand st idx arg s).crc7r = if crcComputed s.cfg.crcEnable idx then packetCrc idx arg else s.crc7r := rfl
@[simp] theorem sendCommand_crc16r (st : Stage) (idx : BitVec 6) (arg : Word) (s : State) : (sendCommand st idx arg s).crc16r = s.crc16r := rfl
@[simp] theorem sendCommand_resp (st : Stage) (idx : BitVec 6) (arg : Word) (s : State) : (sendCommand st idx arg s).resp = s.resp := rfl
@[simp] theorem sendCommand_respx (st : Stage) (idx : BitVec 6) (arg : Word) (s : State) : (sendCommand st idx arg s).respx = s.respx := rfl
@[simp] theorem sendCommand_seq (st : Stage) (idx : BitVec 6) (arg : Word) (s : State) : (sendCommand st idx arg s).seq = ⟨st, .cmdTx 0, false⟩ := rfl
@[simp] theorem sendCommand_deadline (st : Stage) (idx : BitVec 6) (arg : Word) (s : State) : (sendCommand st idx arg s).deadline = s.deadline := rfl
@[simp] theorem sendCommand_attempt (st : Stage) (idx : BitVec 6) (arg : Word) (s : State) : (sendCommand st idx arg s).attempt = s.attempt := rfl
@[simp] theorem sendCommand_blkIdx (st : Stage) (idx : BitVec 6) (arg : Word) (s : State) : (sendCommand st idx arg s).blkIdx = s.blkIdx := rfl
@[simp] theorem sendCommand_byteIdx (st : Stage) (idx : BitVec 6) (arg : Word) (s : State) : (sendCommand st idx arg s).byteIdx = s.byteIdx := rfl
@[simp] theorem sendCommand_firstErr (st : Stage) (idx : BitVec 6) (arg : Word) (s : State) : (sendCommand st idx arg s).firstErr = s.firstErr := rfl
@[simp] theorem sendCommand_mbOpen (st : Stage) (idx : BitVec 6) (arg : Word) (s : State) : (sendCommand st idx arg s).mbOpen = s.mbOpen := rfl
@[simp] theorem sendCommand_pkt (st : Stage) (idx : BitVec 6) (arg : Word) (s : State) : (sendCommand st idx arg s).pkt = frame s.cfg.crcEnable idx arg := rfl
@[simp] theorem sendCommand_rx (st : Stage) (idx : BitVec 6) (arg : Word) (s : State) : (sendCommand st idx arg s).rx = s.rx := rfl
@[simp] theorem sendCommand_mval (st : Stage) (idx : BitVec 6) (arg : Word) (s : State) : (sendCommand st idx arg s).mval = s.mval := rfl
@[simp] theorem sendCommand_tval (st : Stage) (idx : BitVec 6) (arg : Word) (s : State) : (sendCommand st idx arg s).tval = s.tval := rfl
@[simp] theorem sendCommand_pval (st : Stage) (idx : BitVec 6) (arg : Word) (s : State) : (sendCommand st idx arg s).pval = s.pval := rfl
@[simp] theorem sendCommand_hostbuf (st : Stage) (idx : BitVec 6) (arg : Word) (s : State) : (sendCommand st idx arg s).hostbuf = s.hostbuf := rfl
@[simp] theorem sendCommand_inputs (st : Stage) (idx : BitVec 6) (arg : Word) (s : State) : (sendCommand st idx arg s).inputs = s.inputs := rfl
@[simp] theorem sendCommand_miso (st : Stage) (idx : BitVec 6) (arg : Word) (s : State) : (sendCommand st idx arg s).miso = s.miso := rfl
@[simp] theorem sendCommand_cd (st : Stage) (idx : BitVec 6) (arg : Word) (s : State) : (sendCommand st idx arg s).cd = s.cd := rfl
@[simp] theorem sendCommand_xchgs (st : Stage) (idx : BitVec 6) (arg : Word) (s : State) : (sendCommand st idx arg s).xchgs = s.xchgs := rfl
@[simp] theorem sendCommand_now (st : Stage) (idx : BitVec 6) (arg : Word) (s : State) : (sendCommand st idx arg s).now = s.now := rfl
@[simp] theorem sendCommand_draws (st : Stage) (idx : BitVec 6) (arg : Word) (s : State) : (sendCommand st idx arg s).draws = s.draws := rfl
@[simp] theorem sendCommand_rdata (st : Stage) (idx : BitVec 6) (arg : Word) (s : State) : (sendCommand st idx arg s).rdata = s.rdata := rfl

/-! ### startFrame -/

@[simp] theorem startFrame_cfg (s : State) : (startFrame s).cfg = s.cfg := rfl
@[simp] theorem startFrame_opcode (s : State) : (startFrame s).opcode = s.opcode := rfl
@[simp] theorem startFrame_sector (s : State) : (startFrame s).sector = s.sector := rfl
@[simp] theorem startFrame_count (s : State) : (startFrame s).count = s.count := rfl
@[simp] theorem startFrame_len (s : State) : (startFrame s).len = s.len := rfl
@[simp] theorem startFrame_busy (s : State) : (startFrame s).busy = s.busy := rfl
@[simp] theorem startFrame_result (s : State) : (startFrame s).result = s.result := rfl
@[simp] theorem startFrame_value (s : State) : (startFrame s).value = s.value := rfl
@[simp] theorem startFrame_latOp (s : State) : (startFrame s).latOp = s.latOp := rfl
@[simp] theorem startFrame_latSector (s : State) : (startFrame s).latSector = s.latSector := rfl
@[simp] theorem startFrame_latCount (s : State) : (startFrame s).latCount = s.latCount := rfl
@[simp] theorem startFrame_latLen (s : State) : (startFrame s).latLen = s.latLen := rfl
@[simp] theorem startFrame_lifecycle (s : State) : (startFrame s).lifecycle = s.lifecycle := rfl
@[simp] theorem startFrame_blockAddr (s : State) : (startFrame s).blockAddr = s.blockAddr := rfl
@[simp] theorem startFrame_crcOn (s : State) : (startFrame s).crcOn = s.crcOn := rfl
@[simp] theorem startFrame_legacy (s : State) : (startFrame s).legacy = s.legacy := rfl
@[simp] theorem startFrame_scValid (s : State) : (startFrame s).scValid = s.scValid := rfl
@[simp] theorem startFrame_scValue (s : State) : (startFrame s).scValue = s.scValue := rfl
@[simp] theorem startFrame_cs (s : State) : (startFrame s).cs = s.cs := rfl
@[simp] theorem startFrame_clkFast (s : State) : (startFrame s).clkFast = s.clkFast := rfl
@[simp] theorem startFrame_mosi (s : State) : (startFrame s).mosi = s.mosi := rfl
@[simp] theorem startFrame_csdReg (s : State) : (startFrame s).csdReg = s.csdReg := rfl
@[simp] theorem startFrame_crc7r (s : State) : (startFrame s).crc7r = s.crc7r := rfl
@[simp] theorem startFrame_crc16r (s : State) : (startFrame s).crc16r = if s.crcOn then 0 else s.crc16r := rfl
@[simp] theorem startFrame_resp (s : State) : (startFrame s).resp = s.resp := rfl
@[simp] theorem startFrame_respx (s : State) : (startFrame s).respx = s.respx := rfl
@[simp] theorem startFrame_seq (s : State) : (startFrame s).seq = s.seq := rfl
@[simp] theorem startFrame_deadline (s : State) : (startFrame s).deadline = s.deadline := rfl
@[simp] theorem startFrame_attempt (s : State) : (startFrame s).attempt = s.attempt := rfl
@[simp] theorem startFrame_blkIdx (s : State) : (startFrame s).blkIdx = s.blkIdx := rfl
@[simp] theorem startFrame_byteIdx (s : State) : (startFrame s).byteIdx = 0 := rfl
@[simp] theorem startFrame_firstErr (s : State) : (startFrame s).firstErr = s.firstErr := rfl
@[simp] theorem startFrame_mbOpen (s : State) : (startFrame s).mbOpen = s.mbOpen := rfl
@[simp] theorem startFrame_pkt (s : State) : (startFrame s).pkt = s.pkt := rfl
@[simp] theorem startFrame_rx (s : State) : (startFrame s).rx = s.rx := rfl
@[simp] theorem startFrame_mval (s : State) : (startFrame s).mval = s.mval := rfl
@[simp] theorem startFrame_tval (s : State) : (startFrame s).tval = s.tval := rfl
@[simp] theorem startFrame_pval (s : State) : (startFrame s).pval = s.pval := rfl
@[simp] theorem startFrame_hostbuf (s : State) : (startFrame s).hostbuf = s.hostbuf := rfl
@[simp] theorem startFrame_inputs (s : State) : (startFrame s).inputs = s.inputs := rfl
@[simp] theorem startFrame_miso (s : State) : (startFrame s).miso = s.miso := rfl
@[simp] theorem startFrame_cd (s : State) : (startFrame s).cd = s.cd := rfl
@[simp] theorem startFrame_xchgs (s : State) : (startFrame s).xchgs = s.xchgs := rfl
@[simp] theorem startFrame_now (s : State) : (startFrame s).now = s.now := rfl
@[simp] theorem startFrame_draws (s : State) : (startFrame s).draws = s.draws := rfl
@[simp] theorem startFrame_rdata (s : State) : (startFrame s).rdata = s.rdata := rfl

/-! ### absorb -/

@[simp] theorem absorb_cfg (b : Byte) (s : State) : (absorb b s).cfg = s.cfg := rfl
@[simp] theorem absorb_opcode (b : Byte) (s : State) : (absorb b s).opcode = s.opcode := rfl
@[simp] theorem absorb_sector (b : Byte) (s : State) : (absorb b s).sector = s.sector := rfl
@[simp] theorem absorb_count (b : Byte) (s : State) : (absorb b s).count = s.count := rfl
@[simp] theorem absorb_len (b : Byte) (s : State) : (absorb b s).len = s.len := rfl
@[simp] theorem absorb_busy (b : Byte) (s : State) : (absorb b s).busy = s.busy := rfl
@[simp] theorem absorb_result (b : Byte) (s : State) : (absorb b s).result = s.result := rfl
@[simp] theorem absorb_value (b : Byte) (s : State) : (absorb b s).value = s.value := rfl
@[simp] theorem absorb_latOp (b : Byte) (s : State) : (absorb b s).latOp = s.latOp := rfl
@[simp] theorem absorb_latSector (b : Byte) (s : State) : (absorb b s).latSector = s.latSector := rfl
@[simp] theorem absorb_latCount (b : Byte) (s : State) : (absorb b s).latCount = s.latCount := rfl
@[simp] theorem absorb_latLen (b : Byte) (s : State) : (absorb b s).latLen = s.latLen := rfl
@[simp] theorem absorb_lifecycle (b : Byte) (s : State) : (absorb b s).lifecycle = s.lifecycle := rfl
@[simp] theorem absorb_blockAddr (b : Byte) (s : State) : (absorb b s).blockAddr = s.blockAddr := rfl
@[simp] theorem absorb_crcOn (b : Byte) (s : State) : (absorb b s).crcOn = s.crcOn := rfl
@[simp] theorem absorb_legacy (b : Byte) (s : State) : (absorb b s).legacy = s.legacy := rfl
@[simp] theorem absorb_scValid (b : Byte) (s : State) : (absorb b s).scValid = s.scValid := rfl
@[simp] theorem absorb_scValue (b : Byte) (s : State) : (absorb b s).scValue = s.scValue := rfl
@[simp] theorem absorb_cs (b : Byte) (s : State) : (absorb b s).cs = s.cs := rfl
@[simp] theorem absorb_clkFast (b : Byte) (s : State) : (absorb b s).clkFast = s.clkFast := rfl
@[simp] theorem absorb_mosi (b : Byte) (s : State) : (absorb b s).mosi = s.mosi := rfl
@[simp] theorem absorb_csdReg (b : Byte) (s : State) : (absorb b s).csdReg = s.csdReg := rfl
@[simp] theorem absorb_crc7r (b : Byte) (s : State) : (absorb b s).crc7r = s.crc7r := rfl
@[simp] theorem absorb_crc16r (b : Byte) (s : State) : (absorb b s).crc16r = if s.crcOn then crc16Byte s.crc16r b else s.crc16r := rfl
@[simp] theorem absorb_resp (b : Byte) (s : State) : (absorb b s).resp = s.resp := rfl
@[simp] theorem absorb_respx (b : Byte) (s : State) : (absorb b s).respx = s.respx := rfl
@[simp] theorem absorb_seq (b : Byte) (s : State) : (absorb b s).seq = s.seq := rfl
@[simp] theorem absorb_deadline (b : Byte) (s : State) : (absorb b s).deadline = s.deadline := rfl
@[simp] theorem absorb_attempt (b : Byte) (s : State) : (absorb b s).attempt = s.attempt := rfl
@[simp] theorem absorb_blkIdx (b : Byte) (s : State) : (absorb b s).blkIdx = s.blkIdx := rfl
@[simp] theorem absorb_byteIdx (b : Byte) (s : State) : (absorb b s).byteIdx = s.byteIdx := rfl
@[simp] theorem absorb_firstErr (b : Byte) (s : State) : (absorb b s).firstErr = s.firstErr := rfl
@[simp] theorem absorb_mbOpen (b : Byte) (s : State) : (absorb b s).mbOpen = s.mbOpen := rfl
@[simp] theorem absorb_pkt (b : Byte) (s : State) : (absorb b s).pkt = s.pkt := rfl
@[simp] theorem absorb_rx (b : Byte) (s : State) : (absorb b s).rx = s.rx := rfl
@[simp] theorem absorb_mval (b : Byte) (s : State) : (absorb b s).mval = s.mval := rfl
@[simp] theorem absorb_tval (b : Byte) (s : State) : (absorb b s).tval = s.tval := rfl
@[simp] theorem absorb_pval (b : Byte) (s : State) : (absorb b s).pval = s.pval := rfl
@[simp] theorem absorb_hostbuf (b : Byte) (s : State) : (absorb b s).hostbuf = s.hostbuf := rfl
@[simp] theorem absorb_inputs (b : Byte) (s : State) : (absorb b s).inputs = s.inputs := rfl
@[simp] theorem absorb_miso (b : Byte) (s : State) : (absorb b s).miso = s.miso := rfl
@[simp] theorem absorb_cd (b : Byte) (s : State) : (absorb b s).cd = s.cd := rfl
@[simp] theorem absorb_xchgs (b : Byte) (s : State) : (absorb b s).xchgs = s.xchgs := rfl
@[simp] theorem absorb_now (b : Byte) (s : State) : (absorb b s).now = s.now := rfl
@[simp] theorem absorb_draws (b : Byte) (s : State) : (absorb b s).draws = s.draws := rfl
@[simp] theorem absorb_rdata (b : Byte) (s : State) : (absorb b s).rdata = s.rdata := rfl

end Sys2Proof.Machine
end

