-- ==== Sys2Proof/Machine/Asm.lean ====
section
/-! DEFINITION. Host programs (spec/30_encoding.md R104, R105): a line assembles to the register writes of its operands, the `CTRL`
write and a wait for `STATUS.BUSY` = 0. -/

namespace Sys2Proof.Machine

/-- A line of a host program: the operations of R104 with their operands, the pseudo-operations of R105, and a
`HOSTBUF[a..b) = ...` line. -/
inductive Line where
  | cardPresent
  | initCard
  | isBlockAddressed
  | readBlock (sector : Word)
  | writeBlock (sector : Word)
  | readBlocks (sector count : Word)
  | writeBlocks (sector count : Word)
  | sectorCount
  | teardown
  | crc7 (len : BitVec 16)
  | crc16 (len : BitVec 16)
  | csdParse
  | reinit
  | pollPresence (thenInit : Bool)
  | hostbuf (a : Nat) (bytes : List Byte)
  deriving DecidableEq, Repr

/-- The `CTRL` write of an opcode and the wait. -/
def issueOp (op : Word) : List Input := [.write 0x00 op, .wait]

/-- Consecutive host writes of HOSTBUF from address `a` on. -/
def bufferWrites : Nat → List Byte → List Input
  | _, [] => []
  | a, b :: r => .bufWrite a b :: bufferWrites (a + 1) r

/-- The encoding of a line (R104, R105). -/
def assemble : Line → List Input
  | .cardPresent => issueOp 0x01
  | .initCard => issueOp 0x02
  | .isBlockAddressed => issueOp 0x03
  | .readBlock s => .write 0x04 s :: issueOp 0x04
  | .writeBlock s => .write 0x04 s :: issueOp 0x05
  | .readBlocks s n => .write 0x04 s :: .write 0x08 n :: issueOp 0x06
  | .writeBlocks s n => .write 0x04 s :: .write 0x08 n :: issueOp 0x07
  | .sectorCount => issueOp 0x08
  | .teardown => issueOp 0x09
  | .crc7 n => .write 0x0C (n.setWidth 32) :: issueOp 0x0A
  | .crc16 n => .write 0x0C (n.setWidth 32) :: issueOp 0x0B
  | .csdParse => issueOp 0x0C
  | .reinit => issueOp 0x02
  | .pollPresence thenInit => issueOp 0x01 ++ issueOp (if thenInit then 0x02 else 0x09)
  | .hostbuf a bytes => bufferWrites a bytes

end Sys2Proof.Machine
end

