-- ==== Sys2Proof/Machine/SeqName.lean ====
section
/-! DEFINITION. The named positions of `SEQ` in spec/10_state.md R43, as traces use them. A position inside a subroutine has two
names: the procedure step that called it (INIT_RESET, TERM, ...) and the engine's own (CMD_TX, BUSY_WAIT, ...). -/

namespace Sys2Proof.Machine

/-- The 27 named `SEQ` states of R43. -/
inductive SeqName where
  | idle
  | initDetect
  | initDummy
  | initReset
  | initVcheck
  | initCrcen
  | initOcr
  | initOpcond
  | initCap
  | initBlklen
  | initReady
  | cmdTx
  | cmdStopgap
  | cmdPoll
  | cmdExt
  | tokWait
  | dataRx
  | crcRx
  | padTx
  | tokTx
  | dataTx
  | crcTx
  | drespRx
  | busyWait
  | term
  | pure
  deriving DecidableEq, Repr

/-- The procedure-level name of a position, where R43 gives one. R43 and R184 name no position for `SetCS(ASSERTED)`, which comes
after the dummy-clock preamble and before the go-idle loop: DESIGN CHOICE (log entry 21), it is named with the preamble,
`INIT_DUMMY`. -/
def Seq.procedureName (q : Seq) : Option SeqName :=
  match q.stage with
  | .idle => some .idle
  | .initStart =>
    match q.point with
    | .present => some .initDetect
    | .dummy _ => some .initDummy
    | .csAssert => some .initDummy
    | _ => none
  | .initReset => some .initReset
  | .initVcheck => some .initVcheck
  | .initCrcen => some .initCrcen
  | .initOcr => some .initOcr
  | .initApp => some .initOpcond
  | .initOpCond => some .initOpcond
  | .initCap => some .initCap
  | .initBlklen => some .initBlklen
  | .initReady => some .initReady
  | .readBlocksStop => some .term
  | .readBlocksBusy _ => some .term
  | .writeBlocksStop => some .term
  | .crc7 => some .pure
  | .crc16 => some .pure
  | .csdParse _ => some .pure
  | _ => none

/-- The engine-level name of a position, where R43 gives one. -/
def Seq.engineName (q : Seq) : Option SeqName :=
  match q.point with
  | .cmdTx _ => some .cmdTx
  | .stopGap => some .cmdStopgap
  | .poll _ => some .cmdPoll
  | .ext _ _ => some .cmdExt
  | .tokDeadline => some .tokWait
  | .tokWait => some .tokWait
  | .tokCheck => some .tokWait
  | .dataRx => some .dataRx
  | .dataPut => some .dataRx
  | .crcHi => some .crcRx
  | .crcLo _ => some .crcRx
  | .pad => some .padTx
  | .tokTx _ => some .tokTx
  | .dataGet => some .dataTx
  | .dataTx => some .dataTx
  | .crcTxHi => some .crcTx
  | .crcTxLo => some .crcTx
  | .dresp => some .drespRx
  | .busyDeadline => some .busyWait
  | .busyWait => some .busyWait
  | .busyCheck => some .busyWait
  | _ => none

end Sys2Proof.Machine
end

