-- ==== Sys2Proof/Tests/Slice0.lean ====
section
/-! SUPPORT. The model's own tests: the well-formedness smoke test, words written out from the encoding tables, one or two single
steps per instruction with results from the spec's vectors (spec/95_test_vectors.md), and the witnesses of the statements'
hypotheses. -/

namespace Sys2Proof.Tests
open Sys2Proof.Machine

set_option Elab.async false

/-! ### WellFormed: an ill-formed term for each check, which the check refuses -/

/-- R85: a CRC7 field that is neither the computed one (0x57 for CMD9) nor 1111111. -/
theorem test_wf_crc_fields :
    ([.cmd9 0x56, .cmd12 0x31, .cmd16 0x0B, .cmd17 0 0x2B, .cmd18 0 0x71, .cmd24 0 0x36, .cmd25 0 0x00, .cmd55 0x33,
      .cmd58 0x7D, .acmd23 2 0x06, .acmd41 0x3A, .acmd41Legacy 0x73] : List Instr).map Instr.wf =
      List.replicate 12 false := by decide +kernel

/-- R85: the computed and the wildcard CRC7 field are both legal. -/
theorem test_wf_crc_fields_legal :
    ([.cmd9 0x57, .cmd9 0x7F, .cmd12 0x30, .cmd16 0x0A, .cmd17 0 0x2A, .cmd17 0x600 0x10, .cmd18 8 0x38, .cmd24 0x600 0x0D,
      .cmd25 8 0x49, .cmd55 0x32, .cmd58 0x7E, .acmd23 2 0x05, .acmd41 0x3B, .acmd41Legacy 0x72] : List Instr).map Instr.wf =
      List.replicate 14 true := by decide +kernel

/-- R87: the argument of ACMD23 has 23 bits. -/
theorem test_wf_erase_argument :
    (Instr.acmd23 0x00800000 0x7F).wf = false ∧ (Instr.acmd23 0x007FFFFF 0x7F).wf = true := by decide +kernel

/-- R98: a read-error token is not 0. -/
theorem test_wf_read_error : (Instr.tokenReadError 0).wf = false ∧ (Instr.tokenReadError 1).wf = true := by decide +kernel

/-! ### Decode: words written out bit by bit from the tables of 30_encoding.md -/

/-- R82: the twelve host operations; R81: bits [31:8] are ignored; R83: reserved opcodes. -/
theorem test_decode_host :
    ([0b00000001, 0b00000010, 0b00000011, 0b00000100, 0b00000101, 0b00000110, 0b00000111, 0b00001000, 0b00001001,
      0b00001010, 0b00001011, 0b00001100, 0x12345601] : List (BitVec 32)).map (fun w => decode .ctrlWrite (.ctrl w)) =
    [.ok .cardPresent, .ok .initCard, .ok .isBlockAddressed, .ok .readBlock, .ok .writeBlock, .ok .readBlocks,
      .ok .writeBlocks, .ok .sectorCount, .ok .teardown, .ok .crc7, .ok .crc16, .ok .csdParse, .ok .cardPresent] := by
  decide +kernel

theorem test_decode_host_reserved :
    ([0x00, 0x0D, 0xFF] : List (BitVec 32)).map (fun w => decode .ctrlWrite (.ctrl w)) =
      List.replicate 3 (.error .reservedOpcode) := by decide +kernel

/-- R84, R86: start bit, direction bit, six index bits, the argument, seven CRC bits, the end bit. -/
theorem test_decode_commands_fixed :
    ([0b01_000000_00000000000000000000000000000000_1001010_1,
      0b01_001000_00000000000000000000000110101010_1000011_1,
      0b01_001001_00000000000000000000000000000000_1010111_1,
      0b01_001100_00000000000000000000000000000000_0110000_1,
      0b01_010000_00000000000000000000001000000000_0001010_1,
      0b01_110111_00000000000000000000000000000000_0110010_1,
      0b01_111010_00000000000000000000000000000000_1111110_1,
      0b01_111011_00000000000000000000000000000001_1000001_1,
      0b01_101001_01000000000000000000000000000000_0111011_1,
      0b01_101001_00000000000000000000000000000000_1110010_1] : List (BitVec 48)).map
        (fun w => decode .cmdPacket (.packet w)) =
    [.ok .cmd0, .ok .cmd8, .ok (.cmd9 0x57), .ok (.cmd12 0x30), .ok (.cmd16 0x0A), .ok (.cmd55 0x32), .ok (.cmd58 0x7E),
      .ok .cmd59, .ok (.acmd41 0x3B), .ok (.acmd41Legacy 0x72)] := by decide +kernel

theorem test_decode_commands_argument :
    ([0b01_010001_00000000000000000000011000000000_0010000_1,
      0b01_010010_00000000000000000000000000001000_0111000_1,
      0b01_011000_00000000000000000000011000000000_0001101_1,
      0b01_011001_00000000000000000000000000001000_1001001_1,
      0b01_010111_00000000000000000000000000000010_0000101_1,
      0b01_010001_10000000000000000000000000000001_1111111_1] : List (BitVec 48)).map
        (fun w => decode .cmdPacket (.packet w)) =
    [.ok (.cmd17 0x600 0x10), .ok (.cmd18 8 0x38), .ok (.cmd24 0x600 0x0D), .ok (.cmd25 8 0x49), .ok (.acmd23 2 0x05),
      .ok (.cmd17 0x80000001 0x7F)] := by decide +kernel

/-- R84, R86: what is no command packet, by name. -/
theorem test_decode_commands_refused :
    decode .cmdPacket (.packet 0x000000000095) = .error .startBits ∧
    decode .cmdPacket (.packet 0x400000000094) = .error .endBit ∧
    decode .cmdPacket (.packet 0x4100000000F9) = .error .unknownCommand ∧
    decode .cmdPacket (.packet 0x4C0000000161) = .error .fixedArgument ∧
    decode .cmdPacket (.packet 0x400000000097) = .error .fixedTrailer := by decide +kernel

/-- R93, R94, R95, R100: the bytes the block sends. -/
theorem test_decode_sent :
    decode .tokenSend (.byte 0b11111110) = .ok .tokenStartSingle ∧
    decode .tokenSend (.byte 0b11111100) = .ok .tokenStartMultiWrite ∧
    decode .tokenSend (.byte 0b11111101) = .ok .tokenStopTran ∧
    decode .tokenSend (.byte 0xFB) = .error .notAToken ∧
    decode .fillSend (.byte 0b11111111) = .ok .fill ∧ decode .fillSend (.byte 0xFE) = .error .notFill := by decide +kernel

/-- R97: bits [7:5] are ignored. -/
theorem test_decode_data_response :
    decode .dataResponse (.byte 0b111_00101) = .ok (.drespAccepted 7) ∧
    decode .dataResponse (.byte 0b000_00101) = .ok (.drespAccepted 0) ∧
    decode .dataResponse (.byte 0b111_01011) = .ok (.drespCrcError 7) ∧
    decode .dataResponse (.byte 0b101_01101) = .ok (.drespWriteError 5) ∧
    decode .dataResponse (.byte 0b111_00111) = .error .invalidDataResponse := by decide +kernel

/-- R98, R101: the token wait's classes. -/
theorem test_decode_token_wait :
    decode .tokenWait (.byte 0b0000_1000) = .ok (.tokenReadError 8) ∧
    decode .tokenWait (.byte 0b0000_0001) = .ok (.tokenReadError 1) ∧
    decode .tokenWait (.byte 0xFE) = .ok .tokenStartSingle ∧ decode .tokenWait (.byte 0xFF) = .ok .fill ∧
    decode .tokenWait (.byte 0x00) = .error .unexpectedToken ∧
    decode .tokenWait (.byte 0x10) = .error .unexpectedToken ∧
    decode .tokenWait (.byte 0xFD) = .error .unexpectedToken := by decide +kernel

/-- R90: the seven flags, each at its bit. -/
theorem test_decode_status :
    ([0b01000000, 0b00100000, 0b00010000, 0b00001000, 0b00000100, 0b00000010, 0b00000001] : List Byte).map
        (fun b => decode .statusPoll (.byte b)) =
    [.ok (.resp1 true false false false false false false), .ok (.resp1 false true false false false false false),
      .ok (.resp1 false false true false false false false), .ok (.resp1 false false false true false false false),
      .ok (.resp1 false false false false true false false), .ok (.resp1 false false false false false true false),
      .ok (.resp1 false false false false false false true)] ∧
    decode .statusPoll (.byte 0x80) = .error .noStatusByte ∧ decode .statusPoll (.byte 0xFF) = .ok .fill := by decide +kernel

/-- R91, R92: the trailing bytes of CMD58's and CMD8's response. -/
theorem test_decode_extended :
    decode .extOcr (.ext 0b0_0000000_11000000_11111111_10000000_00000000) = .ok (.resp3 0 0xC0FF8000) ∧
    decode .extIfCond (.ext 0b0_0000001_1010_0000000000001111_0001_10101010) = .ok (.resp7 1 0xA 0x000F 1 0xAA) ∧
    decode .extOcr (.ext 0x8000000000) = .error .noStatus := by decide +kernel

/-- R99, R101: the busy wait's classes. -/
theorem test_decode_busy_wait :
    decode .busyWait (.byte 0b00000000) = .ok .busy ∧ decode .busyWait (.byte 0xFF) = .ok .fill ∧
    decode .busyWait (.byte 0x01) = .error .otherBusyByte := by decide +kernel

/-- A word of another width is no instruction of its point. -/
theorem test_decode_width : decode .ctrlWrite (.byte 1) = .error .wrongWidth := by decide +kernel

/-! ### The functions, over the vectors of 95_test_vectors.md L2 -/

/-- L2.1. -/
theorem test_crc7_vectors :
    crc7 [] = 0 ∧ crc7 [0xFF] = 0x79 ∧ crc7 [0x31, 0x32, 0x33, 0x34, 0x35, 0x36, 0x37, 0x38, 0x39] = 0x75 := by decide +kernel

theorem test_crc16_vectors :
    crc16 [0x41] = 0x58E5 ∧
    crc16 [0x40, 0, 0, 0, 0, 0x59, 0, 0, 0x3B, 0x37, 0, 0, 0, 0, 0, 0xD9] = 0x6DE9 := by decide +kernel

/-- L2.2: the trailer with CRC_ENABLE true and false. -/
theorem test_frame_vectors :
    frame true 17 0x100 = 0x510000010043 ∧ frame true 18 0x100 = 0x5200000100F7 ∧ frame true 23 5 = 0x570000000575 ∧
    frame false 55 0 = 0x7700000000FF ∧ frame false 0 0 = 0x400000000095 ∧ frame false 8 0x1AA = 0x48000001AA87 := by decide +kernel

/-- L2.3. -/
theorem test_status_checks :
    ([0x00, 0x01, 0x02, 0x09, 0x10, 0x20, 0x44, 0x48, 0x80] : List Byte).map initCheck =
      [.ok, .ok, .commandRejected, .commandCrcError, .commandRejected, .parameterOutOfRange, .parameterOutOfRange,
        .commandCrcError, .timeout] ∧
    ([0x00, 0x01, 0x05, 0x08, 0x40, 0x7E, 0xFF] : List Byte).map xferCheck =
      [.ok, .commandRejected, .commandRejected, .commandCrcError, .parameterOutOfRange, .commandCrcError, .timeout] := by
  decide +kernel

/-- L2.4: VoltageCheck. -/
theorem test_voltage_check :
    ([(0x01, 0x1AA), (0x01, 0x0AA), (0x01, 0x1AB), (0x05, 0), (0x0D, 0), (0x09, 0x1AA), (0x41, 0x1AA), (0x00, 0x1AA)] :
      List (Byte × Word)).map (fun p => voltageCheck p.1 p.2) =
    [.ok false, .ok true, .ok true, .ok true, .ok true, .error .commandCrcError, .error .parameterOutOfRange, .ok false] := by
  decide +kernel

/-- L2.6: version 2 with the largest count and 2^32; version 1 with shifts 9, 0 and -7; version 3. -/
theorem test_csd_vectors :
    csdParse [0x40, 0, 0, 0, 0, 0x59, 0, 0x3F, 0xFF, 0xFE, 0, 0, 0, 0, 0, 0xF3] = (.ok, 4294966272) ∧
    csdParse [0x40, 0, 0, 0, 0, 0x59, 0, 0x3F, 0xFF, 0xFF, 0, 0, 0, 0, 0, 0x87] = (.parameterOutOfRange, 0) ∧
    csdParse [0, 0, 0, 0, 0, 0x59, 0x03, 0xFF, 0xC0, 0x03, 0x80, 0, 0, 0, 0, 0xA3] = (.ok, 2097152) ∧
    csdParse [0, 0, 0, 0, 0, 0x57, 0, 0x19, 0, 0, 0, 0, 0, 0, 0, 0x81] = (.ok, 101) ∧
    csdParse [0, 0, 0, 0, 0, 0x50, 0, 0, 0, 0, 0, 0, 0, 0, 0, 0xB1] = (.parameterOutOfRange, 0) ∧
    csdParse [0xC0] = (.parameterOutOfRange, 0) := by decide +kernel

/-- HOSTBUF: a write reads back, the unlisted value removes its cell. -/
theorem test_mem_canonical :
    (Mem.write (Mem.write [] 5 1) 2 3 : Mem) = [(2, 3), (5, 1)] ∧ Mem.write [(2, 3), (5, 1)] 2 0 = [(5, 1)] := by decide +kernel

/-- R104: READ_BLOCKS s, n assembles to three register writes and the wait. -/
theorem test_assemble : assemble (.readBlocks 0x100 5) = [.write 4 0x100, .write 8 5, .write 0 6, .wait] := by decide +kernel

/-- R43: the two names of a position inside a subroutine. -/
theorem test_seq_names :
    Seq.procedureName ⟨.initReset, .poll 1, true⟩ = some .initReset ∧
    Seq.engineName ⟨.initReset, .poll 1, true⟩ = some .cmdPoll := by decide +kernel

/-! ### Single steps -/

/-- A running block at a position, in the reset state's other fields; the card returns 0xFF. -/
def at' (st : Stage) (p : Point) (done : Bool) : State :=
  { State.reset with busy := true, seq := ⟨st, p, done⟩, miso := [0xFF] }

/-- The same in a READY session. -/
def ready (st : Stage) (p : Point) (done : Bool) : State :=
  { at' st p done with lifecycle := .ready, cs := true, clkFast := true }

/-- An outcome is a next state of which `p` holds. -/
def nextIs (o : Out) (p : State → Bool) : Bool :=
  match o with
  | .next t => p t
  | _ => false

/-- A host `CTRL` write to the reset block starts operation `op` at stage `st` (L2.7 H4, R22, R31). -/
def starts (v : Word) (op : BitVec 8) (st : Stage) : Bool :=
  nextIs (step { State.reset with inputs := [.write 0 v], sector := 7, count := 5, len := 9 }) fun t =>
    t.busy && t.latOp == op && t.opcode == op && t.latSector == 7 && t.latCount == 5 && t.latLen == 9 &&
      t.seq == ⟨st, .start, true⟩ && t.inputs == []

theorem test_card_present : starts 0x12345601 1 .cardPresent = true := by decide +kernel
theorem test_initialize : starts 0x02 2 .initStart = true := by decide +kernel
theorem test_is_block_addressed : starts 0x03 3 .isBlockAddressed = true := by decide +kernel
theorem test_read_block : starts 0x04 4 .readBlock = true := by decide +kernel
theorem test_write_block : starts 0x05 5 .writeBlock = true := by decide +kernel
theorem test_read_blocks : starts 0x06 6 .readBlocks = true := by decide +kernel
theorem test_write_blocks : starts 0x07 7 .writeBlocks = true := by decide +kernel
theorem test_sector_count : starts 0x08 8 .sectorCount = true := by decide +kernel
theorem test_teardown : starts 0x09 9 .teardownOp = true := by decide +kernel
theorem test_crc7 : starts 0x0A 10 .crc7 = true := by decide +kernel
theorem test_crc16 : starts 0x0B 11 .crc16 = true := by decide +kernel
theorem test_csd_parse : starts 0x0C 12 (.csdParse []) = true := by decide +kernel

/-- H3: a reserved opcode starts too; H5: a busy block ignores the write. -/
theorem test_reserved_starts : starts 0xFF 0xFF .reserved = true := by decide +kernel
theorem test_ctrl_while_busy :
    nextIs (step { at' .readBlock .present true with inputs := [.write 0 4] }) fun t =>
      t.latOp == 0 && t.opcode == 0 && t.seq == ⟨.readBlock, .present, true⟩ = true := by decide +kernel

/-- H2: it completes in its first step. -/
theorem test_reserved_completes :
    nextIs (step (at' .reserved .start true)) (fun t =>
      !t.busy && t.result == .parameterOutOfRange && t.value == 0 && t.xchgs == 0) = true := by decide +kernel

/-- H9: IS_BLOCK_ADDRESSED with no session is 0; in a block-addressed session it is 1. -/
theorem test_is_block_addressed_completes :
    nextIs (step { at' .isBlockAddressed .start true with blockAddr := true }) (fun t => !t.busy && t.value == 0) = true ∧
    nextIs (step { ready .isBlockAddressed .start true with blockAddr := true }) (fun t => !t.busy && t.value == 1) = true := by
  decide +kernel

/-- A packet whose first byte is exchanged (R150): the byte on MOSI, one exchange, the stage kept. -/
def sends (i : Instr) (w : BitVec 48) (b : Byte) : Bool :=
  nextIs (exec i (at' .initReset (.cmdTx 0) false)) fun t =>
    t.pkt == w && t.mosi == b && t.xchgs == 1 && t.rx == 0xFF && t.seq == ⟨.initReset, .cmdTx 0, true⟩

theorem test_cmd0 : sends .cmd0 0x400000000095 0x40 = true := by decide +kernel
theorem test_cmd8 : sends .cmd8 0x48000001AA87 0x48 = true := by decide +kernel
theorem test_cmd9 : sends (.cmd9 0x57) 0x4900000000AF 0x49 = true := by decide +kernel
theorem test_cmd12 : sends (.cmd12 0x30) 0x4C0000000061 0x4C = true := by decide +kernel
theorem test_cmd16 : sends (.cmd16 0x0A) 0x500000020015 0x50 = true := by decide +kernel
theorem test_cmd17 : sends (.cmd17 0x1000 0x13) 0x510000100027 0x51 = true := by decide +kernel
theorem test_cmd18 : sends (.cmd18 0x100 0x7B) 0x5200000100F7 0x52 = true := by decide +kernel
theorem test_cmd24 : sends (.cmd24 0x600 0x0D) 0x58000006001B 0x58 = true := by decide +kernel
theorem test_cmd25 : sends (.cmd25 8 0x49) 0x590000000893 0x59 = true := by decide +kernel
theorem test_cmd55 : sends (.cmd55 0x32) 0x770000000065 0x77 = true := by decide +kernel
theorem test_cmd58 : sends (.cmd58 0x7E) 0x7A00000000FD 0x7A = true := by decide +kernel
theorem test_cmd59 : sends .cmd59 0x7B0000000183 0x7B = true := by decide +kernel
theorem test_acmd23 : sends (.acmd23 5 0x3A) 0x570000000575 0x57 = true := by decide +kernel
theorem test_acmd41 : sends (.acmd41 0x3B) 0x694000000077 0x69 = true := by decide +kernel
theorem test_acmd41_legacy : sends (.acmd41Legacy 0x72) 0x6900000000E5 0x69 = true := by decide +kernel

/-- L2.4, R185: the step after chip select frames CMD0 itself and sends 0x40. -/
theorem test_reset_step_sends :
    nextIs (step (at' .initStart .csAssert true)) (fun t =>
      t.pkt == 0x400000000095 && t.mosi == 0x40 && t.attempt == 1 && t.seq == ⟨.initReset, .cmdTx 0, true⟩) = true := by
  decide +kernel

/-- R93: sent before the block of CMD24; R222: received, it starts the frame. -/
theorem test_token_start_single :
    nextIs (exec .tokenStartSingle (at' .writeBlockData (.tokTx 0xFE) false)) (fun t => t.mosi == 0xFE && t.xchgs == 1) = true ∧
    nextIs (exec .tokenStartSingle (at' .readBlockData .tokWait true)) (fun t => t.seq == ⟨.readBlockData, .dataRx, false⟩) =
      true := by decide +kernel

theorem test_token_start_multi_write :
    nextIs (exec .tokenStartMultiWrite (at' .writeBlocksData (.tokTx 0xFC) false)) (fun t => t.mosi == 0xFC) = true := by decide +kernel

theorem test_token_stop_tran :
    nextIs (exec .tokenStopTran (at' .writeBlocksStop (.tokTx 0xFD) false)) (fun t => t.mosi == 0xFD) = true := by decide +kernel

/-- L2.5 T7d, T7a, T7b: the recorded result; the busy wait follows. -/
theorem test_dresp_accepted :
    nextIs (exec (.drespAccepted 7) (at' .writeBlockData .dresp true)) (fun t =>
      t.seq == ⟨.writeBlockBusy .ok, .busyDeadline, false⟩) = true := by decide +kernel

theorem test_dresp_crc_error :
    nextIs (exec (.drespCrcError 7) (at' .writeBlockData .dresp true)) (fun t =>
      t.seq == ⟨.writeBlockBusy .dataCrcError, .busyDeadline, false⟩) = true := by decide +kernel

theorem test_dresp_write_error :
    nextIs (exec (.drespWriteError 7) (at' .writeBlocksData .dresp true)) (fun t =>
      t.seq == ⟨.writeBlocksBusy .writeRejected, .busyDeadline, false⟩) = true := by decide +kernel

/-- T7c: a byte that is no data response. -/
theorem test_dresp_other :
    nextIs (retire { at' .writeBlockData .dresp true with rx := 0xE7 }) (fun t =>
      t.seq == ⟨.writeBlockBusy .unexpectedDataToken, .busyDeadline, false⟩) = true := by decide +kernel

/-- T2: bit 3 of the read-error token; T3: bit 3 clear. -/
theorem test_token_read_error :
    nextIs (exec (.tokenReadError 8) (at' .readBlockData .tokWait true)) (fun t =>
      t.seq == ⟨.readBlockData, .finish .parameterOutOfRange 0, false⟩) = true ∧
    nextIs (exec (.tokenReadError 4) (at' .readBlockData .tokWait true)) (fun t =>
      t.seq == ⟨.readBlockData, .finish .cardInternalError 0, false⟩) = true := by decide +kernel

/-- T4: 0x00 in the token wait. -/
theorem test_token_unexpected :
    nextIs (step { ready .readBlockData .tokWait true with rx := 0x00 }) (fun t =>
      !t.busy && t.result == .unexpectedDataToken) = true := by decide +kernel

/-- R185: 0x01 is accepted by the Reset step, LIFECYCLE becomes IDLE and CMD8 follows; 0x05 is not. -/
theorem test_resp1 :
    nextIs (exec (.resp1 false false false false false false true) (at' .initReset (.poll 2) true)) (fun t =>
      t.lifecycle == .idle && t.resp == 0x01 && t.pkt == 0x48000001AA87) = true ∧
    nextIs (exec (.resp1 false false false false true false true) { at' .initReset (.poll 2) true with attempt := 1 })
      (fun t => t.lifecycle == .uninit && t.attempt == 2 && t.pkt == 0x400000000095) = true := by decide +kernel

/-- L2.4: OCR C0 FF 80 00 makes a block-addressed card; 00 0F 80 00 has no voltage bit. -/
theorem test_resp3 :
    nextIs (exec (.resp3 0 0xC0FF8000) (at' .initCap (.ext 4 0) true)) (fun t => t.blockAddr && t.respx == 0xC0FF8000) = true ∧
    nextIs (exec (.resp3 1 0x000F8000) (at' .initOcr (.ext 4 0) true)) (fun t =>
      t.seq == ⟨.tearingDown (.complete .commandRejected), .tdCs, false⟩) = true := by decide +kernel

/-- L2.4: the echo 0x1AA; a wrong pattern makes a legacy card. -/
theorem test_resp7 :
    nextIs (exec (.resp7 1 0 0 1 0xAA) (at' .initVcheck (.ext 4 0) true)) (fun t =>
      !t.legacy && t.respx == 0x1AA && t.pkt == 0x7B0000000183) = true ∧
    nextIs (exec (.resp7 1 0 0 1 0xAB) (at' .initVcheck (.ext 4 0) true)) (fun t => t.legacy) = true := by decide +kernel

/-- R224: 0x00 is busy; 0xFF ends the wait. -/
theorem test_busy :
    nextIs (exec .busy (at' (.writeBlockBusy .ok) .busyWait true)) (fun t =>
      t.seq == ⟨.writeBlockBusy .ok, .busyCheck, false⟩) = true := by decide +kernel

theorem test_fill :
    nextIs (exec .fill (at' (.writeBlockBusy .ok) .busyWait true)) (fun t =>
      t.seq == ⟨.writeBlockBusy .ok, .finish .ok 0, false⟩) = true ∧
    nextIs (exec .fill (at' .initStart (.dummy 1) false)) (fun t => t.mosi == 0xFF && t.xchgs == 1) = true := by decide +kernel

/-- L2.5 T9a, T9b, T9c, T9d, T9f: the preconditions. -/
theorem test_preconditions :
    nextIs (step { ready .readBlocks .present true with pval := true }) (fun t => t.result == .parameterOutOfRange) = true ∧
    nextIs (step { ready .readBlock .present true with pval := true, latSector := 0x00800000 }) (fun t =>
      t.result == .parameterOutOfRange) = true ∧
    nextIs (step { ready .readBlocks .present true with pval := true, latCount := 129 }) (fun t =>
      t.result == .parameterOutOfRange) = true ∧
    nextIs (step { ready .readBlocks .present true with pval := true, latCount := 128 }) (fun t => t.mosi == 0x52) = true ∧
    nextIs (step { at' .readBlock .present true with pval := true }) (fun t => t.result == .noCard) = true := by decide +kernel

/-- H1: STATUS after reset with a card present. H8: a write of STATUS is ignored. -/
theorem test_reset_status : hostReadWord State.reset 0x10 = 2 := by decide +kernel
theorem test_status_read_only :
    nextIs (step { State.reset with inputs := [.write 0x10 0xFFFFFFFF] }) (fun t => t.statusWord == 2) = true := by decide +kernel

/-- R61: an access at HOSTBUF_SIZE does not exist. -/
theorem test_hostbuf_range :
    step { State.reset with inputs := [.bufWrite 65536 1] } = .fault .hostBufferRange ∧
    step { State.reset with inputs := [.narrow 0] } = .refused .narrowAccess := ⟨rfl, rfl⟩

/-! ### The host's placement: the first step after reset runs the placed instruction -/

theorem test_placed_command :
    nextIs (step (State.reset.withFetchWord 48 0x510000060021)) (fun t => t.pkt == 0x510000060021 && t.mosi == 0x51) = true := by
  decide +kernel

theorem test_placed_operation :
    nextIs (step (State.reset.withFetchWord 32 0x09)) (fun t => t.busy && t.latOp == 9) = true := by decide +kernel

/-! ### Witnesses: for every statement with hypotheses, a concrete state and operands that meet all of them -/

theorem next_of {o : Out} {p : State → Bool} (h : nextIs o p = true) : ∃ t, o = .next t ∧ p t = true := by
  cases o with
  | next t => exact ⟨t, rfl, h⟩
  | fault r => cases h
  | refused r => cases h

/-- The invariant of a running block in the reference configuration with an empty buffer. -/
theorem inv_running {s : State} (hc : s.cfg = Config.reference) (hh : s.hostbuf = []) (hs : s.scValid = false → s.scValue = 0)
    (hb : s.busy = true) (hd : s.seq.done = true) (hp : s.positionOk) (hm : s.mbOpen = s.seq.stage.multiOpen) : s.Inv :=
  ⟨by rw [hc]; decide, by rw [hh, hc]; decide, hs, fun h => (by rw [hb] at h; cases h), fun _ => ⟨hd, hp⟩, hm⟩

/-- The invariant of an idle block in a READY session. -/
theorem inv_idle_ready : ({ State.reset with lifecycle := .ready, cs := true, clkFast := true } : State).Inv :=
  ⟨by decide, by decide, fun _ => rfl, fun _ => ⟨rfl, ⟨rfl, rfl⟩⟩, fun h => (by cases h), rfl⟩

/-- The block in INITIALIZE, the card selected and answering CMD0: LIFECYCLE = IDLE, the clock slow. -/
def slow (st : Stage) (p : Point) : State := { at' st p true with lifecycle := .idle, cs := true }

/-- A multi-block transfer under way: two blocks, the first one's frame. -/
def multi (st : Stage) (p : Point) : State := { ready st p true with latCount := 2, mbOpen := true }

theorem witness_DecodeInvertsEncode :
    (Instr.acmd23 0x007FFFFF 0x7F).wf = true ∧ (Instr.cmd17 0xFFFFFFFF 0x7F).wf = true ∧ Instr.cmd0.wf = true ∧
      (Instr.tokenReadError 15).wf = true ∧ (Instr.resp7 0x7F 15 0xFFFF 15 0xFF).wf = true := by decide +kernel

theorem witness_DecodingIsLossless :
    (Ctx.statusPoll ≠ .ctrlWrite ∧
      decode .statusPoll (.byte 0x7F) = .ok (.resp1 true true true true true true true)) ∧
    decode .ctrlWrite (.ctrl 0xFFFFFF0C) = .ok .csdParse ∧ decode .ctrlWrite (.ctrl 0x0D) = .error .reservedOpcode := by
  decide +kernel

theorem witness_ClosedCommandSet :
    (∃ s t : State, s.Inv ∧ turn s = .next t ∧ t.seq.point = .cmdTx 0 ∧ t.seq.stage = .initReset) ∧
    (∃ s t : State, s.Inv ∧ turn s = .next t ∧ t.seq.point = .cmdTx 0 ∧ t.seq.stage = .initOpCond) ∧
    (∃ s t : State, s.Inv ∧ turn s = .next t ∧ t.seq.point = .cmdTx 0 ∧ t.seq.stage = .preEraseCount) ∧
    (∃ s t : State, s.Inv ∧ turn s = .next t ∧ t.seq.point = .cmdTx 0 ∧ t.seq.stage = .initCrcen) := by
  have key : ∀ (s : State) (st : Stage), nextIs (turn s) (fun t => t.seq == ⟨st, .cmdTx 0, true⟩) = true →
      ∃ t, turn s = .next t ∧ t.seq.point = .cmdTx 0 ∧ t.seq.stage = st := by
    intro s st h
    obtain ⟨t, ht, hp⟩ := next_of h
    have hp := of_decide_eq_true (p := t.seq = ⟨st, .cmdTx 0, true⟩) (by simpa using hp)
    exact ⟨t, ht, by rw [hp], by rw [hp]⟩
  refine ⟨⟨{ at' .initStart .csAssert true with cs := true }, ?_⟩, ⟨{ slow .initApp (.poll 2) with rx := 0x01 }, ?_⟩,
    ⟨{ multi .preErasePrefix (.poll 8) with rx := 0x00, mbOpen := false }, ?_⟩,
    ⟨{ slow .initVcheck (.ext 4 1) with resp := 0x01, rx := 0xAA }, ?_⟩⟩
  · obtain ⟨t, h⟩ := key { at' .initStart .csAssert true with cs := true } .initReset (by decide +kernel)
    exact ⟨t, inv_running rfl rfl (fun _ => rfl) rfl rfl ⟨rfl, rfl, rfl, rfl⟩ rfl, h⟩
  · obtain ⟨t, h⟩ := key { slow .initApp (.poll 2) with rx := 0x01 } .initOpCond (by decide +kernel)
    exact ⟨t, inv_running rfl rfl (fun _ => rfl) rfl rfl ⟨.inr ⟨by decide, by decide⟩, rfl, rfl, rfl, rfl⟩ rfl, h⟩
  · obtain ⟨t, h⟩ := key { multi .preErasePrefix (.poll 8) with rx := 0x00, mbOpen := false } .preEraseCount (by decide +kernel)
    exact ⟨t, inv_running rfl rfl (fun _ => rfl) rfl rfl ⟨⟨by decide, by decide⟩, ⟨rfl, rfl, rfl⟩, by decide, by decide⟩ rfl, h⟩
  · obtain ⟨t, h⟩ := key { slow .initVcheck (.ext 4 1) with resp := 0x01, rx := 0xAA } .initCrcen (by decide +kernel)
    exact ⟨t, inv_running rfl rfl (fun _ => rfl) rfl rfl ⟨⟨by decide, by decide⟩, rfl, rfl, rfl, rfl⟩ rfl, h⟩

theorem witness_CrcProperties : ([0x12, 0x34] : List Byte).length = ([0xFF, 0x00] : List Byte).length := rfl

/-- One byte for each clause; 0x48 and 0x44 show the precedence. -/
theorem witness_StatusByteChecks :
    (0x48 : Byte) &&& 0x08 ≠ 0 ∧ ((0x44 : Byte) &&& 0x08 = 0 ∧ (0x44 : Byte) &&& 0x60 ≠ 0) ∧ (0x17 : Byte) &&& 0x68 = 0 := by
  decide +kernel

/-- The last sector of a byte-addressed session, and a transfer of the whole buffer. -/
theorem witness_SectorTranslation :
    let s := { ready .readBlocks .present true with latSector := 0x007FFFFF, latCount := 128 }
    s.preCheck s.transferCount = .ok ∧ s.blockAddr = false := by decide +kernel

theorem witness_CsdParser :
    (csdVersion [0x40] = 1 ∧ ([0x40] : List Byte).getD 0 0 = ([0x40, 9] : List Byte).getD 0 0 ∧
      ∀ k, k ∈ [7, 8, 9] → ([0x40] : List Byte).getD k 0 = ([0x40, 9] : List Byte).getD k 0) ∧
    (csdVersion [0x3F] = 0 ∧ ([0x3F] : List Byte).getD 0 0 = ([0x3F, 9] : List Byte).getD 0 0 ∧
      ∀ k, k ∈ [5, 6, 7, 8, 9, 10] → ([0x3F] : List Byte).getD k 0 = ([0x3F, 9] : List Byte).getD k 0) ∧
    (csdVersion [0x80] = 2 ∨ csdVersion [0x80] = 3) := by decide +kernel

theorem witness_ResetTable :
    { multi .readBlocksData .dataRx with inputs := [.reset, .run] }.inputs = .reset :: [.run] := rfl

theorem witness_HostReadsAndWrites :
    { State.reset with inputs := [.read 0x1C] }.inputs = .read 0x1C :: [] ∧
    (0x20 : Nat) ∉ [0x00, 0x04, 0x08, 0x0C, 0x10, 0x14, 0x18, 0x1C] ∧
    ({ at' .readBlock .start true with inputs := [.write 0x0C 0xFFFF0200] }.inputs = .write 0x0C 0xFFFF0200 :: [] ∧
      (0x0C : Nat) ≠ 0) ∧
    { State.reset with inputs := [.narrow 2] }.inputs = .narrow 2 :: [] := by decide +kernel

theorem witness_CtrlWrite :
    { State.reset with inputs := [.read 0] }.inputs = .read 0 :: [] ∧
    ({ State.reset with inputs := [.write 0 0x0D] }.inputs = .write 0 0x0D :: [] ∧ State.reset.busy = false) ∧
    ({ at' .readBlock .start true with inputs := [.write 0 4] }.inputs = .write 0 4 :: [] ∧
      (at' .readBlock .start true).busy = true) := by decide +kernel

theorem witness_StepRunsDecodedInstruction :
    ({ State.reset with inputs := [.write 0 0xFFFFFF01] }.inputs = .write 0 0xFFFFFF01 :: [] ∧
      decode .ctrlWrite (.ctrl 0xFFFFFF01) = .ok .cardPresent) ∧
    (State.reset.inputs = [] ∧ State.reset.busy = false) ∧
    (let u := { ready .readBlockData .tokWait true with rx := 0xFE }
     let s := { u with inputs := [.run] }
     s.inputs = .run :: [] ∧ u.busy = true ∧ u.seq.done = true ∧ received u = some (.tokenWait, .byte 0xFE) ∧
       decode .tokenWait (.byte 0xFE) = .ok .tokenStartSingle) ∧
    (let u := ready .writeBlocksStop (.tokTx 0xFD) false
     u.inputs = [] ∧ u.busy = true ∧ u.seq.done = false ∧ toSend u = some (.tokenSend, .byte 0xFD) ∧
       decode .tokenSend (.byte 0xFD) = .ok .tokenStopTran) ∧
    (let u := ready .writeBlockData .dataGet true
     u.inputs = [] ∧ u.busy = true ∧ u.seq.done = true ∧ received u = none) := by decide +kernel

theorem witness_HostOperationsStart :
    (Instr.csdParse, (0x0C : BitVec 8), Stage.csdParse []) ∈
      ([(.cardPresent, 0x01, .cardPresent), (.csdParse, 0x0C, .csdParse [])] : List (Instr × BitVec 8 × Stage)) ∧
    State.reset.busy = false ∧ (at' .readBlock .start true).busy = true := by decide +kernel

/-- All fifteen packets, with arguments and CRC7 fields at their bounds. -/
theorem witness_CommandPacketsStart :
    ([.cmd0, .cmd8, .cmd9 0x7F, .cmd12 0x7F, .cmd16 0x7F, .cmd17 0xFFFFFFFF 0, .cmd18 0 0x7F, .cmd24 1 1, .cmd25 2 2,
      .cmd55 0x7F, .cmd58 0x7F, .cmd59, .acmd23 0x007FFFFF 0x7F, .acmd41 0x7F, .acmd41Legacy 0x7F] : List Instr).all
      (fun i => match encode i with
        | .packet _ => true
        | _ => false) = true := by decide +kernel

theorem witness_TokensAndFillSent :
    (Instr.fill, (0xFF : Byte)) ∈ ([(.tokenStartSingle, 0xFE), (.fill, 0xFF)] : List (Instr × Byte)) ∧
      (at' .writeBlockData (.tokTx 0xFE) false).seq.done = false := by decide +kernel

theorem witness_ReceivedTokensAndBusBytes :
    (at' .sectorCountData .tokWait true).seq = ⟨.sectorCountData, .tokWait, true⟩ ∧
    (at' .readBlocksData .tokWait true).seq = ⟨.readBlocksData, .tokWait, true⟩ ∧
    (at' .writeBlocksStop .busyWait true).seq = ⟨.writeBlocksStop, .busyWait, true⟩ ∧
    ((7 : Nat) < 8 ∧ (at' .initApp (.poll 7) true).seq = ⟨.initApp, .poll 7, true⟩) := by decide +kernel

theorem witness_DataResponseCodes :
    ((Instr.drespWriteError 7, Err.writeRejected) ∈
        ([(.drespAccepted 7, .ok), (.drespWriteError 7, .writeRejected)] : List (Instr × Err)) ∧
      (at' .writeBlockData .dresp true).seq = ⟨.writeBlockData, .dresp, true⟩ ∧
      (at' .writeBlocksData .dresp true).seq = ⟨.writeBlocksData, .dresp, true⟩) ∧
    ([0xE5, 0xEB, 0xED, 0xE7] : List Byte).map (fun b =>
        if b &&& 0x1F = 0x05 then Err.ok else if b &&& 0x1F = 0x0B then .dataCrcError
          else if b &&& 0x1F = 0x0D then .writeRejected else .unexpectedDataToken) =
      [.ok, .dataCrcError, .writeRejected, .unexpectedDataToken] := by decide +kernel

theorem witness_StatusByteInInit :
    ([.initReset, .initCrcen, .initApp, .initOpCond, .initBlklen, .initVcheck, .initOcr, .initCap] : List Stage).all
      (fun st => (at' st (.poll 1) true).seq == ⟨st, .poll 1, true⟩) = true ∧
    statusByte false false false false false false true = 0x01 := by decide +kernel

theorem witness_StatusByteInTransfer :
    ([.readBlockCmd, .writeBlockCmd, .sectorCountCmd, .readBlocksCmd, .writeBlocksCmd, .readBlocksStop, .preErasePrefix,
      .preEraseCount] : List Stage).all (fun st => (at' st (.poll 8) true).seq == ⟨st, .poll 8, true⟩) = true ∧
    statusByte false false false false true false false = 0x04 := by decide +kernel

theorem witness_NoResponse :
    ([.initReset, .initCrcen, .initBlklen, .readBlockCmd, .writeBlockCmd, .readBlocksCmd, .writeBlocksCmd, .readBlocksStop,
      .preErasePrefix] : List Stage).all (fun st =>
        let s := { at' st (.poll 8) true with rx := 0x80 }
        s.seq.done && s.seq.point == .poll 8 && s.rx.getLsbD 7 && s.seq.stage == st) = true := by decide +kernel

theorem witness_OcrResponse :
    (at' .initOcr (.ext 4 0x00C0FF80) true).seq = ⟨.initOcr, .ext 4 0x00C0FF80, true⟩ ∧
    (at' .initCap (.ext 4 0) true).seq = ⟨.initCap, .ext 4 0, true⟩ := by decide +kernel

theorem witness_InterfaceConditionResponse :
    (at' .initVcheck (.ext 4 1) true).seq = ⟨.initVcheck, .ext 4 1, true⟩ := rfl

theorem witness_PollProcedure :
    ((at' .initReset (.cmdTx 5) true).seq.done = true ∧ (at' .initReset (.cmdTx 5) true).seq.point = .cmdTx 5 ∧
      (at' .initReset (.cmdTx 5) true).seq.stage ≠ .readBlocksStop) ∧
    (multi .readBlocksStop .stopGap).seq.point = .stopGap ∧
    ((at' .initCap (.poll 1) false).seq.done = false ∧ (at' .initCap (.poll 1) false).seq.point = .poll 1) ∧
    (let s := at' .initCap (.poll 8) true
     s.seq.done = true ∧ s.seq.point = .poll 8 ∧ s.seq.stage ∈ ([.initVcheck, .initOcr, .initCap] : List Stage)) ∧
    (0x80 : Byte).getLsbD 7 = true := by decide +kernel

theorem witness_TokenWaitProcedure :
    ([.tokDeadline, .tokWait, .tokCheck] : List Point).all (fun p =>
      (ready .readBlockData p true).seq.done && (ready .readBlockData p true).seq.point == p &&
        !(ready .readBlockData p false).seq.done && (ready .readBlockData p false).seq.point == p) = true := by
  decide +kernel

theorem witness_DeadlineProcedures :
    ([.busyDeadline, .busyWait, .busyCheck] : List Point).all (fun p =>
      (ready .writeBlocksStop p true).seq.done && (ready .writeBlocksStop p true).seq.point == p &&
        !(ready .writeBlocksStop p false).seq.done) = true ∧
    ([.opDeadline] : List Point).all (fun p => (slow .initApp p).seq.done && (slow .initApp p).seq.point == p) = true ∧
    (slow .initOpCond .opCheck).seq.point = .opCheck := by decide +kernel

theorem witness_FrameResultHandled :
    (ready .readBlockData .tokWait true).seq.stage = .readBlockData ∧
    (multi .readBlocksData .tokWait).seq.stage = .readBlocksData ∧
    (ready .sectorCountData .tokWait true).seq.stage = .sectorCountData := by decide +kernel

theorem witness_BusyResultHandled :
    ((ready .writeBlocksStop (.tokTx 0xFD) false).seq = ⟨.writeBlocksStop, .tokTx 0xFD, false⟩ ∧
      (multi .writeBlocksStop (.tokTx 0xFD)).seq = ⟨.writeBlocksStop, .tokTx 0xFD, true⟩ ∧
      (multi .writeBlocksStop (.tokTx 0xFD)).busy = true ∧
      (ready .writeBlocksStop .stopByte false).seq = ⟨.writeBlocksStop, .stopByte, false⟩ ∧
      (multi .writeBlocksStop .stopByte).seq = ⟨.writeBlocksStop, .stopByte, true⟩) ∧
    (ready (.writeBlockBusy .dataCrcError) .busyWait true).seq.stage = .writeBlockBusy .dataCrcError ∧
    (multi (.writeBlocksBusy .ok) .busyWait).seq.stage = .writeBlocksBusy .ok ∧
    (multi (.readBlocksBusy .timeout) .busyWait).seq.stage = .readBlocksBusy .timeout ∧
    (multi .writeBlocksStop .busyWait).seq.stage = .writeBlocksStop := by decide +kernel

theorem witness_DuePrimitivesAndTime :
    ((at' .initReset (.poll 8) false).seq.done = false ∧ (at' .initReset (.cmdTx 5) false).seq.point = .cmdTx (4 + 1) ∧
      (at' .writeBlockData .dataTx false).seq.point = .dataTx ∧ (at' .writeBlockData .crcTxHi false).seq.point = .crcTxHi ∧
      (at' .writeBlockData .crcTxLo false).seq.point = .crcTxLo ∧
      (at' .initOpCond .opCheck false).seq.point ∈
        ([.opDeadline, .opCheck, .tokDeadline, .tokCheck, .busyDeadline, .busyCheck] : List Point)) ∧
    State.reset.cfg.timeBase = .perExchange ∧
    { State.reset with cfg := { Config.reference with timeBase := .platform } }.cfg.timeBase = .platform := by decide +kernel

theorem witness_CompletionAndCodes :
    (ready .sectorCount (.finish .ok 77) false).seq = ⟨.sectorCount, .finish .ok 77, false⟩ := rfl

theorem witness_OneStepOperations :
    ({ State.reset with inputs := [.write 0 0xFFFFFF00] }.inputs = .write 0 0xFFFFFF00 :: [] ∧ State.reset.busy = false ∧
      (0xFFFFFF00 : Word) &&& 0xFF = 0) ∧ 0x0D ≤ ((0x10D : Word) &&& 0xFF).toNat ∧ (0x103 : Word) &&& 0xFF = 3 := by
  decide +kernel

theorem witness_PresenceAndTeardown :
    ({ State.reset with inputs := [.write 0 0x101] }.inputs = .write 0 0x101 :: [] ∧ State.reset.busy = false ∧
      (0x101 : Word) &&& 0xFF = 1 ∧ State.reset.cd = true) ∧
    { State.reset with cd := false }.cd = false ∧ (0x109 : Word) &&& 0xFF = 9 := by decide +kernel

theorem witness_InitializeBegins :
    (ready .initStart .start true).busy = true ∧ (ready .initStart .start true).seq = ⟨.initStart, .start, true⟩ ∧
      (ready .initStart .start true).cd = true ∧ { ready .initStart .start true with cd := false }.cd = false ∧
      (1 ≤ 10 ∧ (10 : Nat) ≤ 10) := by decide +kernel

theorem witness_InitializeEnds :
    ((at' .initReady .clkFast false).busy = true ∧ (at' .initReady .clkFast false).seq = ⟨.initReady, .clkFast, false⟩) ∧
    (∃ u : State, (at' .initStart .present true).busy = true ∧
      retire (at' .initStart .present true) = .next (beginTeardown (.complete .noCard) u) ∧ u.busy = true) :=
  ⟨⟨rfl, rfl⟩, at' .initStart .present true, rfl, rfl, rfl⟩

theorem witness_TransferPreconditions :
    (at' .writeBlocks .present true).seq = ⟨.writeBlocks, .present, true⟩ ∧
      (Stage.writeBlocks, (at' .writeBlocks .present true).latCount.toNat) ∈
        ([(.readBlock, 1), (.writeBlocks, 0)] : List (Stage × Nat)) := by decide +kernel

theorem witness_NoCardWithoutBusActivity :
    let s := { ready .sectorCount .start true with cd := false }
    s.busy = true ∧ s.cd = false ∧ s.seq = ⟨.sectorCount, .start, true⟩ ∧
      Stage.sectorCount ∈ ([.readBlock, .writeBlock, .readBlocks, .writeBlocks, .sectorCount] : List Stage) := by
  decide +kernel

theorem witness_SectorCountCache :
    let s := ready .sectorCount .start true
    s.busy = true ∧ s.cd = true ∧ s.seq = ⟨.sectorCount, .start, true⟩ ∧ s.lifecycle = .ready ∧ s.scValid = false ∧
      { s with scValid := true }.scValid = true ∧ (at' .sectorCount .start true).lifecycle ≠ .ready := by
  decide +kernel

/-- A length of 0, of the whole buffer, and one above a smaller buffer. -/
theorem witness_CrcOperations :
    ({ State.reset with inputs := [.write 0 0x10A] }.inputs = .write 0 0x10A :: [] ∧ State.reset.busy = false ∧
      (0x10A : Word) &&& 0xFF = 0x0A ∧ (0x0B : Word) &&& 0xFF = 0x0B ∧
      State.reset.len.toNat ≤ State.reset.cfg.hostbufSize) ∧
    (let s := { State.reset with len := 513, cfg := { Config.reference with hostbufSize := 512 } }
     s.len.toNat > s.cfg.hostbufSize) ∧
    (let s := { State.reset with len := 512, cfg := { Config.reference with hostbufSize := 512 } }
     s.len.toNat ≤ s.cfg.hostbufSize) := by decide +kernel

theorem witness_CsdParseOperation :
    { State.reset with inputs := [.write 0 0x10C] }.inputs = .write 0 0x10C :: [] ∧ State.reset.busy = false ∧
      (0x10C : Word) &&& 0xFF = 0x0C ∧ 16 ≤ State.reset.cfg.hostbufSize := by decide +kernel

theorem witness_EngineExchanges :
    ((ready .readBlocksStop (.cmdTx 0) true).busy = true ∧
      (ready .readBlocksStop (.cmdTx 0) true).seq = ⟨.readBlocksStop, .cmdTx 0, true⟩) ∧
    (let s := { slow .initOcr (.poll 8) with rx := 0x01, miso := [0, 0xFF, 0x80, 0] }
     s.busy = true ∧ s.seq = ⟨.initOcr, .poll 8, true⟩ ∧ s.rx.getLsbD 7 = false ∧ s.miso = 0 :: 0xFF :: 0x80 :: 0 :: []) := by
  decide +kernel

theorem witness_SectorFrameReceived :
    (∃ (s : State) (payload : List Byte), s.Inv ∧ s.busy = true ∧ s.seq = ⟨.readBlockData, .tokWait, true⟩ ∧ s.rx = 0xFE ∧
      payload.length = 512 ∧ s.miso = payload ++ 0x12 :: 0x34 :: []) ∧
    (∃ (s : State) (payload : List Byte), s.Inv ∧ s.busy = true ∧ s.seq = ⟨.readBlocksData, .tokWait, true⟩ ∧ s.rx = 0xFE ∧
      payload.length = 512 ∧ s.miso = payload ++ 0x12 :: 0x34 :: [] ∧ s.blkIdx = 127) :=
  ⟨⟨{ ready .readBlockData .tokWait true with rx := 0xFE, miso := List.replicate 512 0xA5 ++ 0x12 :: 0x34 :: [] },
      List.replicate 512 0xA5,
      inv_running rfl rfl (fun _ => rfl) rfl rfl ⟨trivial, rfl, rfl, rfl⟩ rfl, rfl, rfl, rfl, List.length_replicate, rfl⟩,
    ⟨{ multi .readBlocksData .tokWait with
        rx := 0xFE, latCount := 128, blkIdx := 127, miso := List.replicate 512 0xA5 ++ 0x12 :: 0x34 :: [] },
      List.replicate 512 0xA5,
      inv_running rfl rfl (fun _ => rfl) rfl rfl
        ⟨trivial, ⟨rfl, rfl, rfl⟩, ⟨by decide +kernel, by decide +kernel⟩, by decide +kernel⟩ rfl,
      rfl, rfl, rfl, List.length_replicate, rfl, rfl⟩⟩

theorem witness_CsdFrameReceived :
    let image : List Byte := [0x40, 0, 0, 0, 0, 0x59, 0, 0, 0x3B, 0x37, 0, 0, 0, 0, 0, 0xD9]
    let s := { ready .sectorCountData .tokWait true with rx := 0xFE, miso := image ++ 0x6D :: 0xE9 :: [] }
    s.busy = true ∧ s.seq = ⟨.sectorCountData, .tokWait, true⟩ ∧ s.rx = 0xFE ∧ image.length = 16 ∧
      s.miso = image ++ 0x6D :: 0xE9 :: [] := by decide +kernel

theorem witness_SectorFrameSent :
    ((ready .writeBlockData .pad true).Inv ∧ (ready .writeBlockData .pad true).busy = true ∧
      (ready .writeBlockData .pad true).seq = ⟨.writeBlockData, .pad, true⟩) ∧
    ((multi .writeBlocksData .pad).Inv ∧ (multi .writeBlocksData .pad).busy = true ∧
      (multi .writeBlocksData .pad).seq = ⟨.writeBlocksData, .pad, true⟩) :=
  ⟨⟨inv_running rfl rfl (fun _ => rfl) rfl rfl ⟨trivial, rfl, rfl, rfl⟩ rfl, rfl, rfl⟩,
    inv_running rfl rfl (fun _ => rfl) rfl rfl
      ⟨trivial, ⟨rfl, rfl, rfl⟩, ⟨by decide +kernel, by decide +kernel⟩, by decide +kernel⟩ rfl, rfl, rfl⟩

/-- Seven bytes without a status, 99 idle bytes before the token, the last sector of a byte-addressed session. -/
theorem witness_ReadBlockDelivers :
    ∃ (six nos payload r : List Byte) (w : Nat) (s : State), s.Inv ∧ s.busy = true ∧ s.cd = true ∧ s.lifecycle = .ready ∧
      s.seq = ⟨.readBlock, .start, true⟩ ∧ s.cfg.timeBase = .perExchange ∧
      (s.blockAddr = true ∨ s.latSector.toNat ≤ 0x007FFFFF) ∧ six.length = 6 ∧ nos.length < 8 ∧
      (∀ b ∈ nos, b.getLsbD 7 = true) ∧ w < s.cfg.tToken ∧ payload.length = 512 ∧
      s.miso = six ++ nos ++ [0x00] ++ List.replicate w 0xFF ++ [0xFE] ++ payload ++ be16 (crc16 payload) ++ r :=
  ⟨List.replicate 6 0xFF, List.replicate 7 0x80, List.replicate 512 0, [], 99,
    { ready .readBlock .start true with
      latSector := 0x007FFFFF
      miso := List.replicate 6 0xFF ++ List.replicate 7 0x80 ++ [0x00] ++ List.replicate 99 0xFF ++ [0xFE] ++
        List.replicate 512 0 ++ be16 (crc16 (List.replicate 512 0)) ++ [] },
    inv_running rfl rfl (fun _ => rfl) rfl rfl ⟨.inl rfl, rfl, rfl⟩ rfl, rfl, rfl, rfl, rfl, rfl, .inr (by decide +kernel), rfl,
    by decide, by decide +kernel, by decide, List.length_replicate, rfl⟩

theorem witness_InvariantAtReset : Config.reference.wf = true := by decide

theorem witness_InvariantKept :
    ∃ s t : State, s.Inv ∧ step s = .next t :=
  ⟨ready .readBlock .start true, _,
    inv_running rfl rfl (fun _ => rfl) rfl rfl ⟨.inl rfl, rfl, rfl⟩ rfl, rfl⟩

theorem witness_StepStopsOnlyAtBadHostAccess :
    ({ State.reset with lifecycle := .ready, cs := true, clkFast := true } : State).Inv := inv_idle_ready

theorem witness_OutputsAndExchanges :
    (∃ s : State, s.Inv ∧ s.busy = false ∧ s.lifecycle = .ready) ∧
    (∃ s t : State, s.Inv ∧ turn s = .next t ∧ t.xchgs ≠ s.xchgs) := by
  refine ⟨⟨_, inv_idle_ready, rfl, rfl⟩, at' .initStart (.dummy 9) true, ?_⟩
  obtain ⟨t, ht, hp⟩ := next_of (p := fun t => t.xchgs == 1) (o := turn (at' .initStart (.dummy 9) true)) (by decide +kernel)
  exact ⟨t, inv_running rfl rfl (fun _ => rfl) rfl rfl
      ⟨by decide, by decide, rfl, rfl, rfl, rfl, rfl, rfl, rfl⟩ rfl, ht, by
    have h : t.xchgs = 1 := by simpa using hp
    rw [h]; decide⟩

/-- The first clause's premise at the last dummy byte; the others at Teardown and Ready. -/
theorem witness_ChipSelectAndClockChange :
    (∃ s t : State, s.Inv ∧ s.noReset ∧ step s = .next t ∧ s.cs = false ∧ t.cs = true) ∧
    (∃ s t : State, s.Inv ∧ s.noReset ∧ step s = .next t ∧ s.cs = true ∧ t.cs = false) ∧
    (∃ s t : State, s.Inv ∧ s.noReset ∧ step s = .next t ∧ s.clkFast = false ∧ t.clkFast = true) ∧
    (∃ s t : State, s.Inv ∧ s.noReset ∧ step s = .next t ∧ s.clkFast = true ∧ t.clkFast = false) := by
  have key : ∀ (s : State) (p : State → Bool), nextIs (step s) p = true → ∃ t, step s = .next t ∧ p t = true :=
    fun s p h => next_of h
  refine ⟨⟨at' .initStart (.dummy 10) true, ?_⟩, ⟨ready .teardownOp .start true, ?_⟩,
    ⟨{ slow .initBlklen (.poll 1) with rx := 0x00 }, ?_⟩, ⟨{ ready (.tearingDown .detect) .tdCs true with cs := false }, ?_⟩⟩
  · obtain ⟨t, ht, hp⟩ := key (at' .initStart (.dummy 10) true) (fun t => t.cs) (by decide +kernel)
    exact ⟨t, inv_running rfl rfl (fun _ => rfl) rfl rfl ⟨by decide, by decide, rfl, rfl, rfl, rfl, rfl, rfl, rfl⟩ rfl,
      (by intro h; cases h), ht, rfl, hp⟩
  · obtain ⟨t, ht, hp⟩ := key (ready .teardownOp .start true) (fun t => !t.cs) (by decide +kernel)
    exact ⟨t, inv_running rfl rfl (fun _ => rfl) rfl rfl ⟨rfl, rfl, rfl⟩ rfl, (by intro h; cases h), ht, rfl, by simpa using hp⟩
  · obtain ⟨t, ht, hp⟩ := key { slow .initBlklen (.poll 1) with rx := 0x00 } (fun t => t.clkFast) (by decide +kernel)
    exact ⟨t, inv_running rfl rfl (fun _ => rfl) rfl rfl ⟨⟨by decide, by decide⟩, rfl, rfl, rfl, rfl⟩ rfl,
      (by intro h; cases h), ht, rfl, hp⟩
  · obtain ⟨t, ht, hp⟩ := key { ready (.tearingDown .detect) .tdCs true with cs := false } (fun t => !t.clkFast)
      (by decide +kernel)
    exact ⟨t, inv_running rfl rfl (fun _ => rfl) rfl rfl ⟨.inl rfl, rfl⟩ rfl, (by intro h; cases h), ht, rfl, by simpa using hp⟩

/-- Reset's 0x01 changes LIFECYCLE, CapacityCheck BLOCK_ADDR, CMD59's status CRC_ON, a wrong echo LEGACY, a CSD frame the cache. -/
theorem witness_SessionChanges :
    ({ at' .initReset (.poll 8) true with rx := 0x01, cs := true }.Inv ∧
      nextIs (step { at' .initReset (.poll 8) true with rx := 0x01, cs := true }) (fun t => t.lifecycle == .idle) = true) ∧
    ({ slow .initCap (.ext 4 0x00C0FF80) with rx := 0x00 }.Inv ∧
      nextIs (step { slow .initCap (.ext 4 0x00C0FF80) with rx := 0x00 }) (fun t => t.blockAddr) = true) ∧
    ({ slow .initCrcen (.poll 1) with rx := 0x01 }.Inv ∧
      nextIs (step { slow .initCrcen (.poll 1) with rx := 0x01 }) (fun t => t.crcOn) = true) ∧
    ({ slow .initVcheck (.ext 4 1) with rx := 0xAB, resp := 0x01 }.Inv ∧
      nextIs (step { slow .initVcheck (.ext 4 1) with rx := 0xAB, resp := 0x01 }) (fun t => t.legacy) = true) ∧
    ((ready .sectorCountData (.crcLo 0) true).Inv ∧
      nextIs (step { ready .sectorCountData (.crcLo 0) true with csdReg := (Vector.replicate 16 0).set 0 0x40 }) (fun t =>
        t.scValid && t.scValue == 1024) = true) ∧
    State.reset.noReset :=
  ⟨⟨inv_running rfl rfl (fun _ => rfl) rfl rfl ⟨⟨by decide, by decide⟩, rfl, rfl, rfl, rfl⟩ rfl, by decide +kernel⟩,
    ⟨inv_running rfl rfl (fun _ => rfl) rfl rfl ⟨⟨by decide, by decide⟩, rfl, rfl, rfl, rfl⟩ rfl, by decide +kernel⟩,
    ⟨inv_running rfl rfl (fun _ => rfl) rfl rfl ⟨⟨by decide, by decide⟩, rfl, rfl, rfl, rfl⟩ rfl, by decide +kernel⟩,
    ⟨inv_running rfl rfl (fun _ => rfl) rfl rfl ⟨⟨by decide, by decide⟩, rfl, rfl, rfl, rfl⟩ rfl, by decide +kernel⟩,
    ⟨inv_running rfl rfl (fun _ => rfl) rfl rfl ⟨trivial, rfl, rfl, rfl⟩ rfl, by decide +kernel⟩,
    by intro h; cases h⟩

theorem witness_BufferWrittenOnlyByReads :
    ∃ s t : State, s.Inv ∧ turn s = .next t ∧ t.hostbuf = [(0, 0xFF)] := by
  obtain ⟨t, ht, hp⟩ := next_of (o := turn { ready .readBlockData .dataRx true with rx := 0xFF })
    (p := fun t => t.hostbuf == [(0, 0xFF)]) (by decide +kernel)
  exact ⟨{ ready .readBlockData .dataRx true with rx := 0xFF }, t,
    inv_running rfl rfl (fun _ => rfl) rfl rfl ⟨Nat.zero_lt_succ 511, rfl, rfl, rfl⟩ rfl, ht, by simpa using hp⟩

/-- A step that goes on, and the completion step. -/
theorem witness_ControllerLeavesHostSide :
    nextIs (turn (ready .readBlock .start true)) (fun t => t.busy) = true ∧
    nextIs (turn (at' .reserved .start true)) (fun t => !t.busy) = true ∧ (at' .reserved .start true).busy = true := by
  decide +kernel

theorem witness_RequestRegistersNotSeen :
    ∃ t, turn (ready .readBlock .start true) = .next t := ⟨_, rfl⟩

theorem witness_SendingDiscardsReceived :
    ([.stopGap, .pad, .dataTx, .crcTxHi, .crcTxLo, .stopByte, .cmdTx 5, .dummy 10, .tokTx 0xFD] : List Point).all (fun p =>
      (multi .writeBlocksStop p).seq.done && nextIs (retire (multi .writeBlocksStop p)) (fun _ => true)) = true := by
  decide +kernel

theorem witness_OneExchangePerStep :
    (∃ t, turn (ready .readBlock .start true) = .next t) ∧ (∃ t, turn (at' .initStart (.dummy 1) true) = .next t) :=
  ⟨⟨_, rfl⟩, ⟨_, rfl⟩⟩

/-- The last busy byte of a read's termination closes the transfer; the first byte of CMD18 opens one. -/
theorem witness_TerminationAlwaysRuns :
    (∃ s : State, s.Inv ∧ s.busy = false) ∧
    (∃ s : State, s.Inv ∧ (s.seq.stage = .readBlocksCmd ∨ s.seq.stage = .writeBlocksCmd)) ∧
    (∃ s t : State, s.Inv ∧ turn s = .next t ∧ s.mbOpen = false ∧ t.mbOpen = true) ∧
    (∃ s t : State, s.Inv ∧ turn s = .next t ∧ s.mbOpen = true ∧ t.mbOpen = false ∧ s.firstErr ≠ .ok) := by
  refine ⟨⟨_, inv_idle_ready, rfl⟩, ⟨multi .writeBlocksCmd (.cmdTx 5),
    inv_running rfl rfl (fun _ => rfl) rfl rfl ⟨by simp [Point.inCommand, multi, ready, at'], ⟨rfl, rfl, rfl⟩, by decide, by decide⟩ rfl, .inr rfl⟩, ?_, ?_⟩
  · obtain ⟨t, ht, hp⟩ := next_of (o := turn { ready .readBlocks .present true with pval := true, latCount := 2 })
      (p := fun t => t.mbOpen) (by decide +kernel)
    exact ⟨{ ready .readBlocks .present true with pval := true, latCount := 2 }, t,
      inv_running rfl rfl (fun _ => rfl) rfl rfl ⟨.inr rfl, rfl, rfl⟩ rfl, ht, rfl, hp⟩
  · obtain ⟨t, ht, hp⟩ := next_of
      (o := turn { multi (.readBlocksBusy .timeout) .busyWait with rx := 0xFF, firstErr := .dataCrcError })
      (p := fun t => !t.mbOpen) (by decide +kernel)
    exact ⟨{ multi (.readBlocksBusy .timeout) .busyWait with rx := 0xFF, firstErr := .dataCrcError }, t,
      inv_running rfl rfl (fun _ => rfl) rfl rfl ⟨trivial, rfl, rfl, rfl⟩ rfl, ht, rfl, by simpa using hp, by decide⟩

/-- The last byte of the buffer, and the first address above it. -/
theorem witness_HostBufferAccess :
    (let s := { State.reset with inputs := [.bufWrite 65535 0] }
     s.hostbuf.wf = true ∧ s.inputs = .bufWrite 65535 0 :: [] ∧ 65535 < s.cfg.hostbufSize) ∧
    (let s := { State.reset with inputs := [.bufRead 65536] }
     s.hostbuf.wf = true ∧ s.inputs = .bufRead 65536 :: [] ∧ s.cfg.hostbufSize ≤ 65536) := by decide +kernel

end Sys2Proof.Tests
end

section
/-! PROOFS. The invariant at reset (O46): every configuration in the ranges of R7 starts idle, with no session, in canonical
memory; the reference configuration is one of them. -/

namespace Sys2Proof.Machine

/-- D52's parameters are in the ranges of R7. -/
theorem Config.reference_wf : Config.reference.wf = true := by decide

/-- The reset table leaves UNINIT with chip select released, the slow clock and no session flag (R50, R128). -/
theorem State.resetWith_quiet (c : Config) : (State.resetWith c).quiet := ⟨rfl, rfl, rfl, rfl, rfl, rfl⟩

/-- The ranges of R7 are all the invariant asks of a configuration at reset: every other clause is about the values of R50's
table, and the position clause holds because the block is not busy. -/
theorem State.resetWith_inv {c : Config} (hc : c.wf = true) : (State.resetWith c).Inv where
  config := hc
  memory := ⟨rfl, rfl⟩
  cache := fun _ => rfl
  idle := fun _ => ⟨rfl, State.resetWith_quiet c⟩
  position := fun (hbusy : false = true) => absurd hbusy Bool.false_ne_true
  multiBlock := rfl

/-- Settles O46: the reset state of any configuration in range meets the invariant, and `State.reset` is the one of D52's. -/
theorem invariantAtReset : Obligations.InvariantAtReset :=
  ⟨State.resetWith_inv Config.reference_wf, fun _ hc => State.resetWith_inv hc⟩

end Sys2Proof.Machine
end

section
/-! PROOFS. The first half of a controller's step without the decoder: what each received byte leads to, as one function of the
state (`moveOn`), tied to the model by `retire_eq_moveOn`. -/

namespace Sys2Proof.Machine

/-! ### Received items and their bits -/

/-- A byte with bit 7 clear is the status byte of its own flags (R90). -/
theorem statusOf_eq_self {b : Byte} (h : b.getLsbD 7 = false) :
    statusOf (b.getLsbD 6) (b.getLsbD 5) (b.getLsbD 4) (b.getLsbD 3) (b.getLsbD 2) (b.getLsbD 1) (b.getLsbD 0) = b := by
  revert b; decide

/-- A data response is its ignored bits followed by its code (R97). -/
theorem drespBits_eq_self (b : Byte) : b.extractLsb' 5 3 ++ b.extractLsb' 0 5 = b := by
  revert b; decide

/-- Bit `i` of an extended response (R91, R92): the trailing word is the low half. -/
theorem extResponse_getLsbD (r : Byte) (x : Word) (i : Nat) :
    (r ++ x : BitVec 40).getLsbD i = if i < 32 then x.getLsbD i else r.getLsbD (i - 32) :=
  BitVec.getLsbD_append

theorem extResponse_status {r : Byte} (x : Word) (h : r.getLsbD 7 = false) : 0#1 ++ (r ++ x).extractLsb' 32 7 = r := by
  have hs : (r ++ x).extractLsb' 32 7 = r.extractLsb' 0 7 :=
    BitVec.eq_of_getLsbD_eq fun i hi => by
      simp only [BitVec.getLsbD_extractLsb', extResponse_getLsbD, hi, decide_true, Bool.true_and]
      rw [if_neg (by omega), Nat.add_sub_cancel_left, Nat.zero_add]
  rw [hs]; clear hs; revert r; decide

theorem extResponse_trailing (r : Byte) (x : Word) : (r ++ x).extractLsb' 0 32 = x :=
  BitVec.eq_of_getLsbD_eq fun i hi => by
    simp only [BitVec.getLsbD_extractLsb', extResponse_getLsbD, Nat.zero_add, hi, decide_true, Bool.true_and, if_true]

/-- The four fields of CMD8's trailing word (R92), put together again. -/
theorem ifCondFields_append (w : BitVec 40) :
    w.extractLsb' 28 4 ++ w.extractLsb' 12 16 ++ w.extractLsb' 8 4 ++ w.extractLsb' 0 8 = w.extractLsb' 0 32 := by
  have field (a i lo n : Nat) (h : a + (i - lo) = i) (hd : i - lo < n ↔ i < 32) :
      (decide (i - lo < n) && w.getLsbD (a + (i - lo))) = (decide (i < 32) && w.getLsbD i) := by
    rw [h, decide_eq_decide.2 hd]
  apply BitVec.eq_of_getLsbD_eq
  intro i hi
  simp only [BitVec.getLsbD_append, BitVec.getLsbD_extractLsb', Nat.zero_add, Nat.sub_sub]
  split_ifs
  · rw [decide_eq_decide.2 (by omega : i < 8 ↔ i < 4 + 16 + 4 + 8)]
  · exact field 8 i 8 4 (by omega) (by omega)
  · exact field 12 i 12 16 (by omega) (by omega)
  · exact field 28 i 28 4 (by omega) (by omega)

section Received
variable {s : State}

theorem received_extEnd {x : Word} (hp : s.seq.point = .ext 4 x) :
    received s = match s.seq.stage with
      | .initVcheck => some (.extIfCond, .ext (s.resp ++ extWord x s.rx))
      | .initOcr => some (.extOcr, .ext (s.resp ++ extWord x s.rx))
      | .initCap => some (.extOcr, .ext (s.resp ++ extWord x s.rx))
      | _ => none := by
  unfold received; rw [hp]; rfl

/-- Of the trailing bytes only the fourth is looked at (R154). -/
theorem received_ext_of_ne {k : Nat} {x : Word} (hk : k ≠ 4) (hp : s.seq.point = .ext k x) : received s = none := by
  unfold received; rw [hp]
  rcases k with _ | _ | _ | _ | _ | k
  case succ.succ.succ.succ.zero => exact absurd rfl hk
  all_goals rfl

/-- An extended response is looked at only after a command that has one (R154). -/
theorem received_ext_of_not_extended {k : Nat} {x : Word} (hp : s.seq.point = .ext k x)
    (he : s.seq.stage.extended = false) : received s = none := by
  by_cases hk : k = 4
  · subst hk
    rw [received_extEnd hp]
    split
    case h_1 hst => rw [hst] at he; cases he
    case h_2 hst => rw [hst] at he; cases he
    case h_3 hst => rw [hst] at he; cases he
    case h_4 => rfl
  · exact received_ext_of_ne hk hp

end Received

/-! ### What a received byte leads to -/

/-- The poll received a byte (R152). -/
def statusReceived (k : Nat) (s : State) : State :=
  if s.rx.getLsbD 7 = false then pollReturns s.rx s else pollAgain k s

/-- The fourth trailing byte of an extended response has come (R154): after a status byte the caller goes on; with bit 7 of the
first byte set it is no response, and the sequencer has no position for that. -/
def extEnds (x : Word) (s : State) : State :=
  if s.resp.getLsbD 7 = false then afterCommand { s with respx := extWord x s.rx } else noSuchPosition s

/-- The token wait received a byte (R101, R222). -/
def tokenReceived (s : State) : State :=
  if s.rx = 0xFE then frameStarts s
  else if s.rx = 0xFF then s.due .tokCheck
  else if s.rx.extractLsb' 4 4 = 0 ∧ s.rx ≠ 0 then afterFrame (readErrorToken (s.rx.extractLsb' 0 4)) s
  else afterFrame .unexpectedDataToken s

/-- The busy wait received a byte (R224). -/
def busyReceived (s : State) : State := if s.rx = 0xFF then afterBusy .ok s else stillBusy s

/-- What follows the primitive just performed, whether a received byte is looked at or not. -/
def moveOn (s : State) : State :=
  match s.seq.point with
  | .poll k => statusReceived k s
  | .ext k x => if k = 4 ∧ s.seq.stage.extended = true then extEnds x s else advance s
  | .tokWait => tokenReceived s
  | .dresp => responseReceived s.rx s
  | .busyWait => busyReceived s
  | _ => advance s

section Done
variable {s : State} (hd : s.seq.done = true)
include hd

/-- Where a received item is looked at, the decoder says whether it is executed or stray. -/
theorem retire_received {c : Ctx} {w : Code} (hr : received s = some (c, w)) :
    retire s = match decode c w with
      | .ok i => exec i s
      | .error _ => .next (strayByte s) := by
  cases hdec : decode c w with
  | ok i => exact retire_decoded hd hr hdec
  | error e => exact retire_stray hd hr hdec

theorem retire_poll {k : Nat} (hp : s.seq.point = .poll k) : retire s = .next (statusReceived k s) := by
  have hr : received s = some (.statusPoll, .byte s.rx) := by simp only [received, hp]
  rw [retire_received hd hr]
  simp only [decode, decodeStatus, statusReceived]
  split_ifs with h7
  · simp only [exec, execResp1, lookedAt, State.atPoll, hd, hp, statusOf_eq_self h7, Bool.and_true, if_true]
  · simp only [exec, execFill, hd, if_true, idleByte, hp]
  · simp only [strayByte, hp]

theorem retire_tokWait (hp : s.seq.point = .tokWait) : retire s = .next (tokenReceived s) := by
  have hr : received s = some (.tokenWait, .byte s.rx) := by simp only [received, hp]
  have hat : s.atTokWait = true := by simp [State.atTokWait, hd, hp]
  rw [retire_received hd hr]
  simp only [decode, decodeTokenWait, tokenReceived]
  split_ifs
  · simp only [exec, execTokenStartSingle, lookedAt, hat, hd, if_true]
  · simp only [exec, execFill, hd, if_true, idleByte, hp]
  · simp only [exec, execTokenReadError, lookedAt, hat, if_true]
  · simp only [strayByte, hp]

theorem retire_dresp (hp : s.seq.point = .dresp) : retire s = .next (responseReceived s.rx s) := by
  have hr : received s = some (.dataResponse, .byte s.rx) := by simp only [received, hp]
  have hat : s.atDresp = true := by simp [State.atDresp, hd, hp]
  have hbits {c : BitVec 5} (h : s.rx.extractLsb' 0 5 = c) :
      responseReceived (s.rx.extractLsb' 5 3 ++ c) s = responseReceived s.rx s := by
    rw [← h, drespBits_eq_self]
  rw [retire_received hd hr]
  simp only [decode, decodeDataResponse]
  split_ifs with h5 hB hD
  · simp only [exec, execDrespAccepted, lookedAt, hat, if_true]
    exact congrArg _ (hbits h5)
  · simp only [exec, execDrespCrcError, lookedAt, hat, if_true]
    exact congrArg _ (hbits hB)
  · simp only [exec, execDrespWriteError, lookedAt, hat, if_true]
    exact congrArg _ (hbits hD)
  · simp only [strayByte, hp]

theorem retire_busyWait (hp : s.seq.point = .busyWait) : retire s = .next (busyReceived s) := by
  have hr : received s = some (.busyWait, .byte s.rx) := by simp only [received, hp]
  have hat : s.atBusyWait = true := by simp [State.atBusyWait, hd, hp]
  rw [retire_received hd hr]
  simp only [decode, decodeBusyWait, busyReceived]
  split_ifs
  · simp only [exec, execFill, hd, if_true, idleByte, hp]
  · simp only [exec, execBusy, lookedAt, hat, if_true]
  · simp only [strayByte, hp]

theorem retire_extEnd {x : Word} (hp : s.seq.point = .ext 4 x) (he : s.seq.stage.extended = true) :
    retire s = .next (extEnds x s) := by
  have hat : s.atExtEnd = true := by simp only [State.atExtEnd, hd, hp, Bool.and_true]
  have hstatus : (s.resp ++ extWord x s.rx : BitVec 40).getLsbD 39 = s.resp.getLsbD 7 := extResponse_getLsbD ..
  have ocr (hr : received s = some (.extOcr, .ext (s.resp ++ extWord x s.rx))) : retire s = .next (extEnds x s) := by
    rw [retire_received hd hr]
    simp only [decode, decodeOcr, hstatus, extEnds]
    split_ifs with h7
    · simp only [exec, execResp3, lookedAt, hat, if_true, extReturns, extResponse_status _ h7, extResponse_trailing]
    · simp only [strayByte, hp]
  have ifCond (hr : received s = some (.extIfCond, .ext (s.resp ++ extWord x s.rx))) :
      retire s = .next (extEnds x s) := by
    rw [retire_received hd hr]
    simp only [decode, decodeIfCond, hstatus, extEnds]
    split_ifs with h7
    · simp only [exec, execResp7, lookedAt, hat, if_true, extReturns, extResponse_status _ h7]
      rw [ifCondFields_append, extResponse_trailing]
    · simp only [strayByte, hp]
  have hr := received_extEnd hp
  split at hr
  case h_1 => exact ifCond hr
  case h_2 => exact ocr hr
  case h_3 => exact ocr hr
  case h_4 h₁ h₂ h₃ => unfold Stage.extended at he; split at he <;> simp_all

/-- The first half of a controller's step is `moveOn`. -/
theorem retire_eq_moveOn : retire s = .next (moveOn s) := by
  unfold moveOn
  cases hp : s.seq.point
  case poll k => exact retire_poll hd hp
  case ext k x =>
    dsimp only
    split_ifs with he
    · obtain ⟨rfl, he⟩ := he
      exact retire_extEnd hd hp he
    · refine retire_advance hd ?_
      by_cases hk : k = 4
      · exact received_ext_of_not_extended hp (by simpa [hk] using he)
      · exact received_ext_of_ne hk hp
  case tokWait => exact retire_tokWait hd hp
  case dresp => exact retire_dresp hd hp
  case busyWait => exact retire_busyWait hd hp
  all_goals exact retire_advance hd (by unfold received; rw [hp])

/-- A step of a busy controller at rest: the primitive that `moveOn` makes due. -/
theorem turn_at_rest (hb : s.busy = true) : turn s = issue (moveOn s) := by
  rw [turn_busy hb, retire_eq_moveOn hd, andThen_next]

end Done

/-- A step of a busy controller with a primitive due. -/
theorem turn_due {s : State} (hd : s.seq.done = false) (hb : s.busy = true) : turn s = issue s := by
  rw [turn_busy hb, retire_due hd, andThen_next]

/-! ### Progress (O48) -/

/-- Inside INITIALIZE, at the last trailing byte of CMD58's response, with a first byte that is no status byte. The invariant
says nothing of `RESP`, so the state is one of it. -/
def badExtendedResponse : State :=
  { State.reset with
    busy := true
    lifecycle := .idle
    cs := true
    resp := 0x80
    seq := ⟨.initOcr, .ext 4 0, true⟩ }

theorem badExtendedResponse_inv : badExtendedResponse.Inv where
  config := by decide
  memory := ⟨rfl, rfl⟩
  cache := fun _ => rfl
  idle := fun h => nomatch h
  position := fun _ => ⟨rfl, ⟨by decide, by decide⟩, rfl, rfl, rfl, rfl⟩
  multiBlock := rfl

/-- The controller's own step faults there: bit 7 of `RESP` is set, so the five bytes decode to nothing. -/
theorem step_badExtendedResponse : step badExtendedResponse = .fault .illegalPosition := by
  have hturn : step badExtendedResponse = turn badExtendedResponse := rfl
  rw [hturn, turn_at_rest rfl rfl]
  rfl

/-- Refutes O48: the invariant does not tie `RESP` to a status byte while the trailing bytes are read, and a controller step from
such a state stops with no host event at all. -/
theorem not_stepStopsOnlyAtBadHostAccess : ¬ Obligations.StepStopsOnlyAtBadHostAccess := by
  intro h
  rcases h badExtendedResponse badExtendedResponse_inv with ⟨t, ht⟩ | ⟨o, ho, -⟩ | ⟨a, -, -, hs⟩
  · rw [step_badExtendedResponse] at ht; cases ht
  · cases ho
  · rw [step_badExtendedResponse] at hs; cases hs

end Sys2Proof.Machine
end

section
/-! PROOFS. What the first half of a controller's step leaves alone, and that it does not see the request registers: one short lemma
for each procedure step, put together for `State.retired`. -/

namespace Sys2Proof.Machine

/-! ### Request registers, working registers, session -/

/-- Values of the registers a host writes (R22-R25). -/
structure Request where
  opcode : BitVec 8
  sector : Word
  count : Word
  len : BitVec 16

/-- The state with other values in the host's registers. -/
def State.withRequest (q : Request) (s : State) : State :=
  { s with opcode := q.opcode, sector := q.sector, count := q.count, len := q.len }

/-- The state with the working registers of a procedure forgotten (R40-R46), `MB_OPEN` apart. -/
def State.eraseWork (s : State) : State :=
  { s with
    csdReg := Vector.replicate 16 0
    crc7r := 0
    crc16r := 0
    resp := 0
    respx := 0
    seq := Seq.idle
    deadline := 0
    attempt := 0
    blkIdx := 0
    byteIdx := 0
    firstErr := .ok
    pkt := 0 }

/-- The state with `MB_OPEN` forgotten. -/
def clearMulti (s : State) : State := { s with mbOpen := false }

/-- The state with `LIFECYCLE` forgotten. -/
def clearLifecycle (s : State) : State := { s with lifecycle := .uninit }

/-- The state with the card's capabilities that VoltageCheck decides forgotten: `LEGACY` and, with them, `CRC_ON` (R187, R188). -/
def clearVcheck (s : State) : State := { s with legacy := false, crcOn := false }

/-- The state with `CRC_ON` forgotten. -/
def clearCrcOn (s : State) : State := { s with crcOn := false }

/-- The state with `BLOCK_ADDR` forgotten. -/
def clearBlockAddr (s : State) : State := { s with blockAddr := false }

/-- The state with the cache of SECTOR_COUNT forgotten (R36). -/
def clearCache (s : State) : State := { s with scValid := false, scValue := 0 }

/-- `f` is a move of the sequencer from `s`: it ends with a primitive due, does not see the request registers, and changes only
working registers and what `forget` forgets. -/
structure MovesAt (forget : State → State) (f : State → State) (s : State) : Prop where
  due : (f s).seq.done = false
  blind : ∀ q, f (s.withRequest q) = (f s).withRequest q
  frame : forget (f s).eraseWork = forget s.eraseWork

section Rules
variable {forget f g : State → State} {s : State}

theorem MovesAt.forgetMore (h : MovesAt id f s) : MovesAt forget f s :=
  ⟨h.due, h.blind, congrArg forget h.frame⟩

theorem MovesAt.weaken {forget' : State → State} (h : MovesAt forget f s)
    (hw : forget (f s).eraseWork = forget s.eraseWork → forget' (f s).eraseWork = forget' s.eraseWork) :
    MovesAt forget' f s :=
  ⟨h.due, h.blind, hw h.frame⟩

/-- A register update before a move. -/
theorem MovesAt.after (h : MovesAt forget f (g s)) (hblind : ∀ q, g (s.withRequest q) = (g s).withRequest q)
    (hframe : forget (g s).eraseWork = forget s.eraseWork) : MovesAt forget (fun s => f (g s)) s :=
  ⟨h.due, fun q => by rw [hblind, h.blind], h.frame.trans hframe⟩

/-- A choice that does not look at the request registers. -/
theorem MovesAt.ite {c : State → Prop} [∀ s, Decidable (c s)] (hc : ∀ q, c (s.withRequest q) = c s)
    (hf : c s → MovesAt forget f s) (hg : ¬ c s → MovesAt forget g s) :
    MovesAt forget (fun s => if c s then f s else g s) s := by
  by_cases h : c s
  · have hq : ∀ q, c (s.withRequest q) := fun q => (hc q).symm ▸ h
    exact ⟨by simpa only [if_pos h] using (hf h).due, fun q => by simpa only [if_pos h, if_pos (hq q)] using (hf h).blind q,
      by simpa only [if_pos h] using (hf h).frame⟩
  · have hq : ∀ q, ¬ c (s.withRequest q) := fun q => (hc q).symm ▸ h
    exact ⟨by simpa only [if_neg h] using (hg h).due, fun q => by simpa only [if_neg h, if_neg (hq q)] using (hg h).blind q,
      by simpa only [if_neg h] using (hg h).frame⟩

/-- A step that is another one from `s`, whatever the request registers hold. -/
theorem MovesAt.congr (h : MovesAt forget g s) (hf : ∀ q, f (s.withRequest q) = g (s.withRequest q)) :
    MovesAt forget f s := by
  have h₀ : f s = g s := hf ⟨s.opcode, s.sector, s.count, s.len⟩
  exact ⟨h₀ ▸ h.due, fun q => by rw [h₀, hf q, h.blind], h₀ ▸ h.frame⟩

/-- A step that is another one in the running procedure. -/
theorem MovesAt.ofStage {st : Stage} (hst : s.seq.stage = st) (hf : ∀ s' : State, s'.seq.stage = st → f s' = g s')
    (h : MovesAt forget g s) : MovesAt forget f s :=
  h.congr fun q => hf (s.withRequest q) hst

/-- A step that is another one after the primitive performed last. -/
theorem MovesAt.ofPoint {p : Point} (hp : s.seq.point = p) (hf : ∀ s' : State, s'.seq.point = p → f s' = g s')
    (h : MovesAt forget g s) : MovesAt forget f s :=
  h.congr fun q => hf (s.withRequest q) hp

end Rules

/-! ### The steps of INITIALIZE -/

section Steps
variable (s : State)

theorem raisesInit_moves (e : Err) : MovesAt id (raisesInit e) s := ⟨rfl, fun _ => rfl, rfl⟩

theorem noSuchPosition_moves : MovesAt id noSuchPosition s := ⟨rfl, fun _ => rfl, rfl⟩

theorem afterDetect_moves : MovesAt id afterDetect s :=
  .ite (fun _ => rfl) (fun _ => ⟨rfl, fun _ => rfl, rfl⟩) fun _ => ⟨rfl, fun _ => rfl, rfl⟩

theorem afterDummy_moves (k : Nat) : MovesAt id (afterDummy k) s :=
  .ite (fun _ => rfl) (fun _ => ⟨rfl, fun _ => rfl, rfl⟩) fun _ => ⟨rfl, fun _ => rfl, rfl⟩

theorem beginReset_moves : MovesAt id beginReset s := ⟨rfl, fun _ => rfl, rfl⟩

theorem afterReset_moves : MovesAt clearLifecycle afterReset s :=
  .ite (fun _ => rfl) (fun _ => ⟨rfl, fun _ => rfl, rfl⟩)
    fun _ => .ite (fun _ => rfl) (fun _ => ⟨rfl, fun _ => rfl, rfl⟩) fun _ => ⟨rfl, fun _ => rfl, rfl⟩

theorem beginCrcEnable_moves : MovesAt clearCrcOn beginCrcEnable s :=
  .ite (fun _ => rfl) (fun _ => ⟨rfl, fun _ => rfl, rfl⟩) fun _ => ⟨rfl, fun _ => rfl, rfl⟩

theorem afterVcheck_moves : MovesAt clearVcheck afterVcheck s := by
  cases h : voltageCheck s.resp s.respx with
  | error e =>
    refine (raisesInit_moves s e).forgetMore.congr fun q => ?_
    have hq : voltageCheck (s.withRequest q).resp (s.withRequest q).respx = .error e := h
    simp only [afterVcheck, hq]
  | ok l =>
    refine MovesAt.congr (g := fun s => beginCrcEnable { s with legacy := l })
      (.after ((beginCrcEnable_moves _).weaken fun h => congrArg (fun u : State => { u with legacy := false }) h)
        (fun _ => rfl) rfl) fun q => ?_
    have hq : voltageCheck (s.withRequest q).resp (s.withRequest q).respx = .ok l := h
    simp only [afterVcheck, hq]

theorem afterCrcen_moves : MovesAt clearCrcOn afterCrcen s := ⟨rfl, fun _ => rfl, rfl⟩

theorem afterOcr_moves : MovesAt id afterOcr s :=
  .ite (fun _ => rfl)
    (fun _ => .ite (fun _ => rfl) (fun _ => ⟨rfl, fun _ => rfl, rfl⟩) fun _ => ⟨rfl, fun _ => rfl, rfl⟩)
    fun _ => ⟨rfl, fun _ => rfl, rfl⟩

theorem afterOpDeadline_moves : MovesAt id afterOpDeadline s := ⟨rfl, fun _ => rfl, rfl⟩

theorem afterApp_moves : MovesAt id afterApp s :=
  .ite (fun _ => rfl) (fun _ => ⟨rfl, fun _ => rfl, rfl⟩) fun _ => ⟨rfl, fun _ => rfl, rfl⟩

theorem afterOpCond_moves : MovesAt id afterOpCond s :=
  .ite (fun _ => rfl)
    (fun _ => .ite (fun _ => rfl) (fun _ => ⟨rfl, fun _ => rfl, rfl⟩) fun _ => ⟨rfl, fun _ => rfl, rfl⟩)
    fun _ => ⟨rfl, fun _ => rfl, rfl⟩

theorem afterOpCheck_moves : MovesAt id afterOpCheck s :=
  .ite (fun _ => rfl) (fun _ => ⟨rfl, fun _ => rfl, rfl⟩) fun _ => ⟨rfl, fun _ => rfl, rfl⟩

theorem beginBlkLen_moves : MovesAt id beginBlkLen s :=
  .ite (fun _ => rfl) (fun _ => ⟨rfl, fun _ => rfl, rfl⟩) fun _ => ⟨rfl, fun _ => rfl, rfl⟩

theorem afterCap_moves : MovesAt clearBlockAddr afterCap s :=
  .ite (fun _ => rfl) (fun _ => .after (beginBlkLen_moves _).forgetMore (fun _ => rfl) rfl)
    fun _ => ⟨rfl, fun _ => rfl, rfl⟩

theorem afterBlkLen_moves : MovesAt id afterBlkLen s :=
  .ite (fun _ => rfl) (fun _ => ⟨rfl, fun _ => rfl, rfl⟩) fun _ => ⟨rfl, fun _ => rfl, rfl⟩

theorem afterReady_moves : MovesAt clearLifecycle afterReady s := ⟨rfl, fun _ => rfl, rfl⟩

theorem afterTeardown_moves (k : AfterTeardown) : MovesAt clearSession (afterTeardown k) s := by
  cases k <;> exact ⟨rfl, fun _ => rfl, rfl⟩

/-! ### The steps of the transfers -/

theorem beginReadBlock_moves : MovesAt id beginReadBlock s := ⟨rfl, fun _ => rfl, rfl⟩

theorem retryOrRaise_moves (e : Err) : MovesAt id (retryOrRaise e) s :=
  .ite (fun _ => rfl) (fun _ => ⟨rfl, fun _ => rfl, rfl⟩) fun _ => ⟨rfl, fun _ => rfl, rfl⟩

theorem afterReadBlockCmd_moves : MovesAt id afterReadBlockCmd s :=
  .ite (fun _ => rfl) (fun _ => ⟨rfl, fun _ => rfl, rfl⟩)
    fun _ => (retryOrRaise_moves s (xferCheck s.resp)).congr fun _ => rfl

theorem afterReadBlockData_moves (e : Err) : MovesAt id (afterReadBlockData e) s :=
  .ite (fun _ => rfl) (fun _ => ⟨rfl, fun _ => rfl, rfl⟩) fun _ => retryOrRaise_moves s e

theorem beginWriteBlock_moves : MovesAt id beginWriteBlock s := ⟨rfl, fun _ => rfl, rfl⟩

theorem afterWriteBlockCmd_moves : MovesAt id afterWriteBlockCmd s :=
  .ite (fun _ => rfl) (fun _ => ⟨rfl, fun _ => rfl, rfl⟩) fun _ => ⟨rfl, fun _ => rfl, rfl⟩

theorem beginReadBlocks_moves : MovesAt clearMulti beginReadBlocks s :=
  .ite (fun _ => rfl) (fun _ => ⟨rfl, fun _ => rfl, rfl⟩) fun _ => ⟨rfl, fun _ => rfl, rfl⟩

theorem afterReadBlocksCmd_moves : MovesAt clearMulti afterReadBlocksCmd s :=
  .ite (fun _ => rfl) (fun _ => ⟨rfl, fun _ => rfl, rfl⟩) fun _ => ⟨rfl, fun _ => rfl, rfl⟩

theorem afterReadBlocksData_moves (e : Err) : MovesAt id (afterReadBlocksData e) s :=
  .ite (fun _ => rfl)
    (fun _ => .ite (fun _ => rfl) (fun _ => ⟨rfl, fun _ => rfl, rfl⟩) fun _ => ⟨rfl, fun _ => rfl, rfl⟩)
    fun _ => ⟨rfl, fun _ => rfl, rfl⟩

theorem afterStop_moves : MovesAt id afterStop s := ⟨rfl, fun _ => rfl, rfl⟩

theorem beginWriteMulti_moves : MovesAt clearMulti beginWriteMulti s := ⟨rfl, fun _ => rfl, rfl⟩

theorem beginWriteBlocks_moves : MovesAt clearMulti beginWriteBlocks s :=
  .ite (fun _ => rfl) (fun _ => ⟨rfl, fun _ => rfl, rfl⟩)
    fun _ => .ite (fun _ => rfl) (fun _ => ⟨rfl, fun _ => rfl, rfl⟩) fun _ => beginWriteMulti_moves s

theorem afterPreErasePrefix_moves : MovesAt clearMulti afterPreErasePrefix s :=
  .ite (fun _ => rfl) (fun _ => ⟨rfl, fun _ => rfl, rfl⟩) fun _ => beginWriteMulti_moves s

theorem afterWriteBlocksCmd_moves : MovesAt clearMulti afterWriteBlocksCmd s :=
  .ite (fun _ => rfl) (fun _ => ⟨rfl, fun _ => rfl, rfl⟩) fun _ => ⟨rfl, fun _ => rfl, rfl⟩

theorem afterWriteBlocksData_moves (e : Err) : MovesAt id (afterWriteBlocksData e) s :=
  .ite (fun _ => rfl)
    (fun _ => .ite (fun _ => rfl) (fun _ => ⟨rfl, fun _ => rfl, rfl⟩) fun _ => ⟨rfl, fun _ => rfl, rfl⟩)
    fun _ => ⟨rfl, fun _ => rfl, rfl⟩

theorem beginSectorCount_moves : MovesAt id beginSectorCount s :=
  .ite (fun _ => rfl) (fun _ => ⟨rfl, fun _ => rfl, rfl⟩) fun _ => ⟨rfl, fun _ => rfl, rfl⟩

theorem afterSectorCountCmd_moves : MovesAt id afterSectorCountCmd s :=
  .ite (fun _ => rfl) (fun _ => ⟨rfl, fun _ => rfl, rfl⟩) fun _ => ⟨rfl, fun _ => rfl, rfl⟩

/-- The parser's result decides (R268): the cache is filled, or its error raised. -/
theorem afterSectorCountData_eq (e : Err) (s : State) :
    afterSectorCountData e s =
      if e = .ok then
        if (csdParse s.csdReg.toList).1 = .ok then
          returns (csdParse s.csdReg.toList).2 { s with scValue := (csdParse s.csdReg.toList).2, scValid := true }
        else raises (csdParse s.csdReg.toList).1 s
      else raises e s := by
  unfold afterSectorCountData
  rcases csdParse s.csdReg.toList with ⟨e', n⟩
  cases e' <;> rfl

theorem afterSectorCountData_moves (e : Err) : MovesAt clearCache (afterSectorCountData e) s := by
  rw [funext (afterSectorCountData_eq e)]
  exact .ite (fun _ => rfl)
    (fun _ => .ite (fun _ => rfl) (fun _ => ⟨rfl, fun _ => rfl, rfl⟩) fun _ => ⟨rfl, fun _ => rfl, rfl⟩)
    fun _ => ⟨rfl, fun _ => rfl, rfl⟩

/-! ### The engine, the frames and the pure operations -/

theorem beginCrc_moves : MovesAt id beginCrc s :=
  .ite (fun _ => rfl) (fun _ => ⟨rfl, fun _ => rfl, rfl⟩)
    fun _ => .ite (fun _ => rfl) (fun _ => ⟨rfl, fun _ => rfl, rfl⟩) fun _ => ⟨rfl, fun _ => rfl, rfl⟩

theorem preSession_moves {forget k : State → State} (hk : MovesAt forget k s) : MovesAt forget (preSession k) s :=
  .ite (fun _ => rfl) (fun _ => ⟨rfl, fun _ => rfl, rfl⟩)
    fun _ => .ite (fun _ => rfl) (fun _ => ⟨rfl, fun _ => rfl, rfl⟩) fun _ => hk

theorem preTransfer_moves {forget k : State → State} (hk : MovesAt forget k s) : MovesAt forget (preTransfer k) s :=
  preSession_moves s (.ite (fun _ => rfl) (fun _ => hk) fun _ => ⟨rfl, fun _ => rfl, rfl⟩)

theorem afterPacketByte_moves (k : Nat) : MovesAt id (afterPacketByte k) s :=
  .ite (fun _ => rfl) (fun _ => ⟨rfl, fun _ => rfl, rfl⟩)
    fun _ => .ite (fun _ => rfl) (fun _ => ⟨rfl, fun _ => rfl, rfl⟩) fun _ => ⟨rfl, fun _ => rfl, rfl⟩

theorem nextPayload_moves : MovesAt id nextPayload s :=
  .ite (fun _ => rfl) (fun _ => ⟨rfl, fun _ => rfl, rfl⟩) fun _ => ⟨rfl, fun _ => rfl, rfl⟩

theorem afterPayloadTx_moves : MovesAt id afterPayloadTx s :=
  .ite (fun _ => rfl) (fun _ => ⟨rfl, fun _ => rfl, rfl⟩) fun _ => ⟨rfl, fun _ => rfl, rfl⟩

end Steps

/-! ### What the sequencer does at each position -/

/-- What the sequencer may change besides the working registers, by the procedure that runs: the session (R32-R36), `MB_OPEN`
(R45), or nothing. -/
def Stage.forget : Stage → State → State
  | .tearingDown _ => clearSession
  | .initReset => clearLifecycle
  | .initVcheck => clearVcheck
  | .initCrcen => clearCrcOn
  | .initCap => clearBlockAddr
  | .sectorCountData => clearCache
  | .readBlocks => clearMulti
  | .readBlocksCmd => clearMulti
  | .readBlocksBusy _ => clearMulti
  | .writeBlocks => clearMulti
  | .preErasePrefix => clearMulti
  | .preEraseCount => clearMulti
  | .writeBlocksCmd => clearMulti
  | .writeBlocksStop => clearMulti
  | _ => id

/-- The procedures whose moves may change `MB_OPEN` (R45). -/
def Stage.opensOrCloses : Stage → Bool
  | .readBlocks => true
  | .readBlocksCmd => true
  | .readBlocksBusy _ => true
  | .writeBlocks => true
  | .preErasePrefix => true
  | .preEraseCount => true
  | .writeBlocksCmd => true
  | .writeBlocksStop => true
  | _ => false

/-- As `Stage.forget`; the end of the Ready step makes the session READY (R193). -/
def Seq.forget (q : Seq) : State → State :=
  match q.point with
  | .clkFast => clearLifecycle
  | _ => q.stage.forget

section Stages
variable (s : State)

theorem entry_moves : MovesAt s.seq.stage.forget entry s := by
  cases hst : s.seq.stage
  case crc7 =>
    exact .ofStage hst (fun s' h => by simp only [entry, h])
      (.after (g := fun s => { s with crc7r := if s.latLen.toNat > s.cfg.hostbufSize then s.crc7r else 0 })
        (beginCrc_moves _) (fun _ => rfl) rfl)
  case crc16 =>
    exact .ofStage hst (fun s' h => by simp only [entry, h])
      (.after (g := fun s => { s with crc16r := if s.latLen.toNat > s.cfg.hostbufSize then s.crc16r else 0 })
        (beginCrc_moves _) (fun _ => rfl) rfl)
  all_goals exact .ofStage hst (fun s' h => by simp only [entry, h]; rfl) ⟨rfl, fun _ => rfl, rfl⟩

theorem afterPresent_moves : MovesAt s.seq.stage.forget afterPresent s := by
  cases hst : s.seq.stage
  case cardPresent =>
    refine .ofStage (g := ?step1) hst (fun s' h => ?hf) ?h
    case hf => simp only [afterPresent, h]; rfl
    case h => exact .ite (fun _ => rfl) (fun _ => ⟨rfl, fun _ => rfl, rfl⟩) fun _ => ⟨rfl, fun _ => rfl, rfl⟩
  case initStart => exact .ofStage hst (fun s' h => by simp only [afterPresent, h]) (afterDetect_moves s)
  case readBlock =>
    exact .ofStage hst (fun s' h => by simp only [afterPresent, h]) (preTransfer_moves s (beginReadBlock_moves s))
  case writeBlock =>
    exact .ofStage hst (fun s' h => by simp only [afterPresent, h]) (preTransfer_moves s (beginWriteBlock_moves s))
  case readBlocks =>
    exact .ofStage hst (fun s' h => by simp only [afterPresent, h]) (preTransfer_moves s (beginReadBlocks_moves s))
  case writeBlocks =>
    exact .ofStage hst (fun s' h => by simp only [afterPresent, h]) (preTransfer_moves s (beginWriteBlocks_moves s))
  case sectorCount =>
    exact .ofStage hst (fun s' h => by simp only [afterPresent, h]) (preSession_moves s (beginSectorCount_moves s))
  all_goals
    exact .ofStage hst (fun s' h => by simp only [afterPresent, h]) (noSuchPosition_moves s).forgetMore

theorem afterCommand_moves : MovesAt s.seq.stage.forget afterCommand s := by
  cases hst : s.seq.stage
  case initReset => exact .ofStage hst (fun s' h => by simp only [afterCommand, h]) (afterReset_moves s)
  case initVcheck => exact .ofStage hst (fun s' h => by simp only [afterCommand, h]) (afterVcheck_moves s)
  case initCrcen => exact .ofStage hst (fun s' h => by simp only [afterCommand, h]) (afterCrcen_moves s)
  case initOcr => exact .ofStage hst (fun s' h => by simp only [afterCommand, h]) (afterOcr_moves s)
  case initApp => exact .ofStage hst (fun s' h => by simp only [afterCommand, h]) (afterApp_moves s)
  case initOpCond => exact .ofStage hst (fun s' h => by simp only [afterCommand, h]) (afterOpCond_moves s)
  case initCap => exact .ofStage hst (fun s' h => by simp only [afterCommand, h]) (afterCap_moves s)
  case initBlklen => exact .ofStage hst (fun s' h => by simp only [afterCommand, h]) (afterBlkLen_moves s)
  case readBlockCmd => exact .ofStage hst (fun s' h => by simp only [afterCommand, h]) (afterReadBlockCmd_moves s)
  case writeBlockCmd => exact .ofStage hst (fun s' h => by simp only [afterCommand, h]) (afterWriteBlockCmd_moves s)
  case readBlocksCmd => exact .ofStage hst (fun s' h => by simp only [afterCommand, h]) (afterReadBlocksCmd_moves s)
  case readBlocksStop => exact .ofStage hst (fun s' h => by simp only [afterCommand, h]) (afterStop_moves s)
  case preErasePrefix => exact .ofStage hst (fun s' h => by simp only [afterCommand, h]) (afterPreErasePrefix_moves s)
  case preEraseCount => exact .ofStage hst (fun s' h => by simp only [afterCommand, h]) (beginWriteMulti_moves s)
  case writeBlocksCmd => exact .ofStage hst (fun s' h => by simp only [afterCommand, h]) (afterWriteBlocksCmd_moves s)
  case sectorCountCmd => exact .ofStage hst (fun s' h => by simp only [afterCommand, h]) (afterSectorCountCmd_moves s)
  all_goals
    exact .ofStage hst (fun s' h => by simp only [afterCommand, h]) (noSuchPosition_moves s).forgetMore

theorem afterFrame_moves (e : Err) : MovesAt s.seq.stage.forget (afterFrame e) s := by
  cases hst : s.seq.stage
  case readBlockData => exact .ofStage hst (fun s' h => by simp only [afterFrame, h]) (afterReadBlockData_moves s e)
  case readBlocksData => exact .ofStage hst (fun s' h => by simp only [afterFrame, h]) (afterReadBlocksData_moves s e)
  case sectorCountData => exact .ofStage hst (fun s' h => by simp only [afterFrame, h]) (afterSectorCountData_moves s e)
  all_goals exact .ofStage hst (fun s' h => by simp only [afterFrame, h]) (noSuchPosition_moves s).forgetMore

theorem afterBusy_moves (e : Err) : MovesAt s.seq.stage.forget (afterBusy e) s := by
  cases hst : s.seq.stage
  case writeBlocksBusy d =>
    exact .ofStage hst (fun s' h => by simp only [afterBusy, h]) (afterWriteBlocksData_moves s (d.orElse e))
  case writeBlockBusy =>
    exact .ofStage hst (fun s' h => by simp only [afterBusy, h]; rfl) ⟨rfl, fun _ => rfl, rfl⟩
  case readBlocksBusy =>
    exact .ofStage hst (fun s' h => by simp only [afterBusy, h]; rfl) ⟨rfl, fun _ => rfl, rfl⟩
  case writeBlocksStop =>
    exact .ofStage hst (fun s' h => by simp only [afterBusy, h]; rfl) ⟨rfl, fun _ => rfl, rfl⟩
  all_goals exact .ofStage hst (fun s' h => by simp only [afterBusy, h]) (noSuchPosition_moves s).forgetMore

theorem responseReceived_moves (b : Byte) : MovesAt s.seq.stage.forget (responseReceived b) s := by
  cases hst : s.seq.stage
  all_goals exact .ofStage hst (fun s' h => by simp only [responseReceived, h]; rfl) ⟨rfl, fun _ => rfl, rfl⟩

theorem afterPureGet_moves (a : Nat) : MovesAt s.seq.stage.forget (afterPureGet a) s := by
  cases hst : s.seq.stage
  case crc7 =>
    refine .ofStage (g := ?step2) hst (fun s' h => ?hf) ?h
    case hf => simp only [afterPureGet, h]; rfl
    case h => exact .ite (fun _ => rfl) (fun _ => ⟨rfl, fun _ => rfl, rfl⟩) fun _ => ⟨rfl, fun _ => rfl, rfl⟩
  case crc16 =>
    refine .ofStage (g := ?step3) hst (fun s' h => ?hf) ?h
    case hf => simp only [afterPureGet, h]; rfl
    case h => exact .ite (fun _ => rfl) (fun _ => ⟨rfl, fun _ => rfl, rfl⟩) fun _ => ⟨rfl, fun _ => rfl, rfl⟩
  case csdParse c =>
    refine .ofStage (g := ?step4) hst (fun s' h => ?hf) ?h
    case hf => simp only [afterPureGet, h]; rfl
    case h => exact .ite (fun _ => rfl) (fun _ => ⟨rfl, fun _ => rfl, rfl⟩) fun _ => ⟨rfl, fun _ => rfl, rfl⟩
  all_goals exact .ofStage hst (fun s' h => by simp only [afterPureGet, h]) (noSuchPosition_moves s).forgetMore

theorem afterPayloadRx_moves : MovesAt s.seq.stage.forget afterPayloadRx s := by
  cases hst : s.seq.stage
  case sectorCountData =>
    exact .ofStage hst (fun s' h => by simp only [afterPayloadRx, h])
      (.after (g := fun s => { absorb s.rx s with csdReg := s.csdReg.setIfInBounds s.byteIdx s.rx })
        (nextPayload_moves _).forgetMore (fun _ => rfl) rfl)
  all_goals exact .ofStage hst (fun s' h => by simp only [afterPayloadRx, h]; rfl) ⟨rfl, fun _ => rfl, rfl⟩

theorem afterTokenTx_moves : MovesAt s.seq.stage.forget afterTokenTx s := by
  cases hst : s.seq.stage
  all_goals exact .ofStage hst (fun s' h => by simp only [afterTokenTx, h]; rfl) ⟨rfl, fun _ => rfl, rfl⟩

theorem pollReturns_moves (r : Byte) : MovesAt s.seq.stage.forget (pollReturns r) s :=
  .ite (fun _ => rfl) (fun _ => ⟨rfl, fun _ => rfl, rfl⟩)
    fun _ => .after (g := fun s => { s with resp := r }) (afterCommand_moves { s with resp := r }) (fun _ => rfl) rfl

theorem pollAgain_moves (k : Nat) : MovesAt s.seq.stage.forget (pollAgain k) s :=
  .ite (fun _ => rfl) (fun _ => ⟨rfl, fun _ => rfl, rfl⟩) fun _ => (pollReturns_moves s s.rx).congr fun _ => rfl

theorem statusReceived_moves (k : Nat) : MovesAt s.seq.stage.forget (statusReceived k) s :=
  .ite (fun _ => rfl) (fun _ => (pollReturns_moves s s.rx).congr fun _ => rfl) fun _ => pollAgain_moves s k

theorem extEnds_moves (x : Word) : MovesAt s.seq.stage.forget (extEnds x) s :=
  .ite (fun _ => rfl)
    (fun _ => .after (g := fun s => { s with respx := extWord x s.rx })
      (afterCommand_moves { s with respx := extWord x s.rx }) (fun _ => rfl) rfl)
    fun _ => (noSuchPosition_moves s).forgetMore

theorem afterCrcRx_moves (hi : Byte) : MovesAt s.seq.stage.forget (afterCrcRx hi) s :=
  .ite (fun _ => rfl) (fun _ => afterFrame_moves s _) fun _ => afterFrame_moves s _

theorem tokenReceived_moves : MovesAt s.seq.stage.forget tokenReceived s :=
  .ite (fun _ => rfl) (fun _ => ⟨rfl, fun _ => rfl, rfl⟩) fun _ =>
    .ite (fun _ => rfl) (fun _ => ⟨rfl, fun _ => rfl, rfl⟩) fun _ =>
      .ite (fun _ => rfl) (fun _ => (afterFrame_moves s (readErrorToken (s.rx.extractLsb' 0 4))).congr fun _ => rfl)
        fun _ => afterFrame_moves s _

theorem busyReceived_moves : MovesAt s.seq.stage.forget busyReceived s :=
  .ite (fun _ => rfl) (fun _ => afterBusy_moves s _) fun _ => ⟨rfl, fun _ => rfl, rfl⟩

theorem Seq.forget_of_ne {q : Seq} (h : q.point ≠ .clkFast) : q.forget = q.stage.forget := by
  unfold Seq.forget
  split
  · exact absurd ‹_› h
  · rfl

/-- The register updates after a primitive, where no received byte is looked at. -/
theorem advance_moves : MovesAt s.seq.forget advance s := by
  by_cases hclk : s.seq.point = .clkFast
  · have hforget : s.seq.forget = clearLifecycle := by simp only [Seq.forget, hclk]
    rw [hforget]
    exact .ofPoint hclk (fun s' h => by simp only [advance, h]) (afterReady_moves s)
  rw [Seq.forget_of_ne hclk]
  cases hp : s.seq.point
  case start => exact .ofPoint hp (fun s' h => by simp only [advance, h]) (entry_moves s)
  case tdClk =>
    cases hst : s.seq.stage
    case tearingDown k =>
      exact .congr (afterTeardown_moves s k) fun q => by
        have hq : (s.withRequest q).seq = s.seq := rfl
        simp only [advance, hq, hp, hst]
    all_goals
      exact .congr (noSuchPosition_moves s).forgetMore fun q => by
        have hq : (s.withRequest q).seq = s.seq := rfl
        simp only [advance, hq, hp, hst]
  case present => exact .ofPoint hp (fun s' h => by simp only [advance, h]) (afterPresent_moves s)
  case dummy k => exact .ofPoint hp (fun s' h => by simp only [advance, h]) (afterDummy_moves s k).forgetMore
  case cmdTx k => exact .ofPoint hp (fun s' h => by simp only [advance, h]) (afterPacketByte_moves s k).forgetMore
  case opCheck => exact .ofPoint hp (fun s' h => by simp only [advance, h]) (afterOpCheck_moves s).forgetMore
  case tokCheck =>
    refine .ofPoint (g := ?tokCheck) hp (fun s' h => ?hf) ?h
    case hf => simp only [advance, h]; rfl
    case h => exact .ite (fun _ => rfl) (fun _ => afterFrame_moves s _) fun _ => ⟨rfl, fun _ => rfl, rfl⟩
  case dataRx => exact .ofPoint hp (fun s' h => by simp only [advance, h]) (afterPayloadRx_moves s)
  case dataPut => exact .ofPoint hp (fun s' h => by simp only [advance, h]) (nextPayload_moves s).forgetMore
  case crcLo hi => exact .ofPoint hp (fun s' h => by simp only [advance, h]) (afterCrcRx_moves s hi)
  case tokTx => exact .ofPoint hp (fun s' h => by simp only [advance, h]) (afterTokenTx_moves s)
  case dataTx => exact .ofPoint hp (fun s' h => by simp only [advance, h]) (afterPayloadTx_moves s).forgetMore
  case busyCheck =>
    refine .ofPoint (g := ?busyCheck) hp (fun s' h => ?hf) ?h
    case hf => simp only [advance, h]; rfl
    case h => exact .ite (fun _ => rfl) (fun _ => afterBusy_moves s _) fun _ => ⟨rfl, fun _ => rfl, rfl⟩
  case pureGet a => exact .ofPoint hp (fun s' h => by simp only [advance, h]) (afterPureGet_moves s a)
  case clkFast => exact absurd hp hclk
  all_goals exact .ofPoint hp (fun s' h => by simp only [advance, h]; rfl) ⟨rfl, fun _ => rfl, rfl⟩

/-- The first half of a controller's step. -/
theorem moveOn_moves : MovesAt s.seq.forget moveOn s := by
  cases hp : s.seq.point
  case poll k =>
    rw [Seq.forget_of_ne (by simp [hp])]
    exact .ofPoint hp (fun s' h => by simp only [moveOn, h]) (statusReceived_moves s k)
  case ext k x =>
    rw [Seq.forget_of_ne (by simp [hp])]
    refine .ofPoint (g := ?ext) hp (fun s' h => ?hf) ?h
    case hf => simp only [moveOn, h]; rfl
    case h =>
      exact .ite (fun _ => rfl) (fun _ => extEnds_moves s x) fun _ => Seq.forget_of_ne (q := s.seq) (by simp [hp]) ▸ advance_moves s
  case tokWait =>
    rw [Seq.forget_of_ne (by simp [hp])]
    exact .ofPoint hp (fun s' h => by simp only [moveOn, h]) (tokenReceived_moves s)
  case dresp =>
    rw [Seq.forget_of_ne (by simp [hp])]
    refine .ofPoint (g := fun s => responseReceived s.rx s) hp (fun s' h => by simp only [moveOn, h]) ?_
    exact (responseReceived_moves s s.rx).congr fun _ => rfl
  case busyWait =>
    rw [Seq.forget_of_ne (by simp [hp])]
    exact .ofPoint hp (fun s' h => by simp only [moveOn, h]) (busyReceived_moves s)
  all_goals exact .ofPoint hp (fun s' h => by simp only [moveOn, h]) (advance_moves s)

end Stages

end Sys2Proof.Machine
end

section
/-! PROOFS. The second half of a controller's step: the primitive that is due, said once (`Performed`), and the frame of the whole
step: the host's side (O53), the request registers (O54), the exchanges (O56). -/

namespace Sys2Proof.Machine

/-! ### The item about to be sent -/

/-- The points whose primitive is a byte exchange (R120). -/
def Point.exchanges : Point → Bool
  | .dummy _ => true
  | .cmdTx _ => true
  | .stopGap => true
  | .poll _ => true
  | .ext _ _ => true
  | .tokWait => true
  | .dataRx => true
  | .crcHi => true
  | .crcLo _ => true
  | .pad => true
  | .tokTx _ => true
  | .dataTx => true
  | .crcTxHi => true
  | .crcTxLo => true
  | .dresp => true
  | .busyWait => true
  | .stopByte => true
  | _ => false

/-- The points whose primitive samples the time input (R123). -/
def Point.samplesTime : Point → Bool
  | .opDeadline => true
  | .opCheck => true
  | .tokDeadline => true
  | .tokCheck => true
  | .busyDeadline => true
  | .busyCheck => true
  | _ => false

/-- A packet is its fields, when its start and end bits are right (R84). -/
theorem packet_fields {w : BitVec 48} (hstart : w.extractLsb' 46 2 = 1#2) (hend : w.getLsbD 0 = true) :
    packet (w.extractLsb' 40 6) (w.extractLsb' 8 32) (w.extractLsb' 1 7) = w := by
  have h46 : w.getLsbD 46 = true := by simpa using congrArg (·.getLsbD 0) hstart
  have h47 : w.getLsbD 47 = false := by simpa using congrArg (·.getLsbD 1) hstart
  apply BitVec.eq_of_getLsbD_eq
  intro i hi
  rw [packet_getLsbD]
  split_ifs with h0 h1 h2 h3
  · obtain rfl : i = 0 := by omega
    exact hend.symm
  · rw [BitVec.getLsbD_extractLsb', decide_eq_true (by omega), Bool.true_and, Nat.add_sub_cancel' (by omega)]
  · rw [BitVec.getLsbD_extractLsb', decide_eq_true (by omega), Bool.true_and, Nat.add_sub_cancel' (by omega)]
  · rw [BitVec.getLsbD_extractLsb', decide_eq_true (by omega), Bool.true_and, Nat.add_sub_cancel' (by omega)]
  · obtain rfl | rfl : i = 46 ∨ i = 47 := by omega
    · exact h46.symm
    · exact h47.symm

theorem needArg_eq_ok {arg fixed : Word} {i j : Instr} : needArg arg fixed i = .ok j ↔ arg = fixed ∧ i = j := by
  unfold needArg
  split <;> simp_all

theorem needArgCrc_eq_ok {arg fixed : Word} {crc c : BitVec 7} {i j : Instr} :
    needArgCrc arg fixed crc c i = .ok j ↔ arg = fixed ∧ crc = c ∧ i = j := by
  unfold needArgCrc
  split
  · split <;> simp_all
  · simp_all

/-- A command that decodes is the one its fields encode, row by row of R86. -/
theorem encode_of_decodeCommand {idx : BitVec 6} {arg : Word} {crc : BitVec 7} {i : Instr}
    (h : decodeCommand idx arg crc = .ok i) : encode i = .packet (packet idx arg crc) := by
  unfold decodeCommand at h
  rcases ite_eq_iff.1 h with ⟨rfl, hi⟩ | ⟨-, h⟩
  · obtain ⟨rfl, rfl, rfl⟩ := needArgCrc_eq_ok.1 hi; rfl
  rcases ite_eq_iff.1 h with ⟨rfl, hi⟩ | ⟨-, h⟩
  · obtain ⟨rfl, rfl, rfl⟩ := needArgCrc_eq_ok.1 hi; rfl
  rcases ite_eq_iff.1 h with ⟨rfl, hi⟩ | ⟨-, h⟩
  · obtain ⟨rfl, rfl⟩ := needArg_eq_ok.1 hi; rfl
  rcases ite_eq_iff.1 h with ⟨rfl, hi⟩ | ⟨-, h⟩
  · obtain ⟨rfl, rfl⟩ := needArg_eq_ok.1 hi; rfl
  rcases ite_eq_iff.1 h with ⟨rfl, hi⟩ | ⟨-, h⟩
  · obtain ⟨rfl, rfl⟩ := needArg_eq_ok.1 hi; rfl
  rcases ite_eq_iff.1 h with ⟨rfl, hi⟩ | ⟨-, h⟩
  · cases hi; rfl
  rcases ite_eq_iff.1 h with ⟨rfl, hi⟩ | ⟨-, h⟩
  · cases hi; rfl
  rcases ite_eq_iff.1 h with ⟨rfl, hi⟩ | ⟨-, h⟩
  · cases hi; rfl
  rcases ite_eq_iff.1 h with ⟨rfl, hi⟩ | ⟨-, h⟩
  · cases hi; rfl
  rcases ite_eq_iff.1 h with ⟨rfl, hi⟩ | ⟨-, h⟩
  · obtain ⟨rfl, rfl⟩ := needArg_eq_ok.1 hi; rfl
  rcases ite_eq_iff.1 h with ⟨rfl, hi⟩ | ⟨-, h⟩
  · obtain ⟨rfl, rfl⟩ := needArg_eq_ok.1 hi; rfl
  rcases ite_eq_iff.1 h with ⟨rfl, hi⟩ | ⟨-, h⟩
  · obtain ⟨rfl, rfl, rfl⟩ := needArgCrc_eq_ok.1 hi; rfl
  rcases ite_eq_iff.1 h with ⟨rfl, hi⟩ | ⟨-, h⟩
  · cases hi; rfl
  rcases ite_eq_iff.1 h with ⟨rfl, h41⟩ | ⟨-, h⟩
  · rcases ite_eq_iff.1 h41 with ⟨rfl, hi⟩ | ⟨-, h⟩
    · cases hi; rfl
    · obtain ⟨rfl, rfl⟩ := needArg_eq_ok.1 h; rfl
  · cases h

/-- A packet that decodes is the encoding of what it decodes to (R84, R86). -/
theorem encode_of_decodePacket {w : BitVec 48} {i : Instr} (h : decodePacket w = .ok i) : encode i = .packet w := by
  unfold decodePacket at h
  split_ifs at h with hstart hend
  · rw [encode_of_decodeCommand h, packet_fields hstart hend]

/-- The three kinds of items that are sent. -/
theorem toSend_cases {u : State} {c : Ctx} {w : Code} (h : toSend u = some (c, w)) :
    u.seq.point.exchanges = true ∧
      (c = .cmdPacket ∧ w = .packet u.pkt ∧ u.seq.point = .cmdTx 0 ∨
        (∃ b, c = .tokenSend ∧ w = .byte b ∧ u.seq.point = .tokTx b) ∨ c = .fillSend ∧ w = .byte fillByte) := by
  unfold toSend at h
  cases hp : u.seq.point <;> rw [hp] at h
  case cmdTx k =>
    cases k with
    | zero => cases h; exact ⟨rfl, .inl ⟨rfl, rfl, rfl⟩⟩
    | succ k => cases h
  case tokTx b => cases h; exact ⟨rfl, .inr (.inl ⟨b, rfl, rfl, rfl⟩)⟩
  case dummy | stopGap | poll | ext | tokWait | dataRx | crcHi | crcLo | pad | dresp | busyWait | stopByte =>
    cases h; exact ⟨rfl, .inr (.inr ⟨rfl, rfl⟩)⟩
  all_goals cases h

/-- An item that decodes is exchanged, the same byte whatever the request registers hold. -/
theorem issue_of_sent {u : State} {c : Ctx} {w : Code} {i : Instr} (hd : u.seq.done = false)
    (hs : toSend u = some (c, w)) (hdec : decode c w = .ok i) :
    ∃ o, ∀ q, issue (u.withRequest q) = .next (xchg o (u.withRequest q)) := by
  have hexec : ∀ q, issue (u.withRequest q) = exec i (u.withRequest q) := fun q => issue_decoded hs hdec
  have hdue : ∀ q, (u.withRequest q).seq.done = false := fun _ => hd
  simp only [hexec]
  obtain ⟨-, ⟨rfl, rfl, hp⟩ | ⟨b, rfl, rfl, -⟩ | ⟨rfl, rfl⟩⟩ := toSend_cases hs
  · refine ⟨packetByte u.pkt 0, fun q => ?_⟩
    have hseq : (u.withRequest q).seq = ⟨(u.withRequest q).seq.stage, .cmdTx 0, false⟩ := by
      rw [← hp, ← hd]; rfl
    rw [exec_packet (encode_of_decodePacket hdec), sendPacket, ← hseq]; rfl
  · refine ⟨b, fun q => ?_⟩
    simp only [decode, decodeTokenSend] at hdec
    split_ifs at hdec with hs hm ht <;> cases hdec
    · simp only [exec, execTokenStartSingle, hdue, hs]; rfl
    · rw [hm]; rfl
    · rw [ht]; rfl
  · refine ⟨fillByte, fun q => ?_⟩
    cases decode_fillSend.symm.trans hdec
    simp only [exec, execFill, hdue]; rfl

/-! ### The due primitive, said once -/

/-- What performing the primitive due in `u` can answer (R13, R282). -/
inductive Performed (u : State) : State → Prop
  | exchanged (o : Byte) (hp : u.seq.point.exchanges = true) : Performed u (xchg o u)
  | timeSampled (hp : u.seq.point.samplesTime = true) : Performed u (sampleNow u)
  | presenceSampled (hp : u.seq.point = .present) : Performed u (samplePresent u)
  | chipSelectSet (v : Bool) (hp : u.seq.point = if v then .csAssert else .tdCs) : Performed u (setCs v u)
  | clockSet (v : Bool) (hp : u.seq.point = if v then .clkFast else .tdClk) : Performed u (setClk v u)
  | byteRead (a : Nat) (hp : u.seq.point = .dataGet ∨ u.seq.point = .pureGet a) (ha : a < u.cfg.hostbufSize) :
    Performed u { u with mval := u.hostbuf.read a, seq := ⟨u.seq.stage, u.seq.point, true⟩ }
  | byteWritten (hp : u.seq.point = .dataPut) (ha : u.payloadAddr < u.cfg.hostbufSize) :
    Performed u
      { u with hostbuf := u.hostbuf.write u.payloadAddr u.rx, seq := ⟨u.seq.stage, u.seq.point, true⟩ }
  | completed (e : Err) (v : Word) (hp : u.seq.point = .finish e v) : Performed u (complete e v u)

theorem performed_of_perform {u t : State} (h : perform u = .next t) : Performed u t := by
  cases hp : u.seq.point <;> simp only [perform, hp, reduceCtorEq] at h
  case tdCs => cases h; exact .chipSelectSet false hp
  case tdClk => cases h; exact .clockSet false hp
  case present => cases h; exact .presenceSampled hp
  case csAssert => cases h; exact .chipSelectSet true hp
  case dataPut =>
    obtain ⟨ha, rfl⟩ := memWrite_eq_next.1 h
    exact .byteWritten hp ha
  case dataGet =>
    obtain ⟨ha, rfl⟩ := memRead_eq_next.1 h
    exact .byteRead _ (.inl hp) ha
  case pureGet a =>
    obtain ⟨ha, rfl⟩ := memRead_eq_next.1 h
    exact .byteRead a (.inr hp) ha
  case clkFast => cases h; exact .clockSet true hp
  case finish e v => cases h; exact .completed e v hp
  case cmdTx => cases h; exact .exchanged _ (by rw [hp]; rfl)
  case dataTx => cases h; exact .exchanged _ (by rw [hp]; rfl)
  case crcTxHi => cases h; exact .exchanged _ (by rw [hp]; rfl)
  case crcTxLo => cases h; exact .exchanged _ (by rw [hp]; rfl)
  all_goals cases h; exact .timeSampled (by rw [hp]; rfl)

theorem performed_of_issue {u t : State} (hd : u.seq.done = false) (h : issue u = .next t) : Performed u t := by
  cases hs : toSend u with
  | none => exact performed_of_perform (issue_perform hs ▸ h)
  | some cw =>
    obtain ⟨c, w⟩ := cw
    cases hdec : decode c w with
    | error e => simp only [issue, hs, hdec, reduceCtorEq] at h
    | ok i =>
      obtain ⟨o, ho⟩ := issue_of_sent hd hs hdec
      cases (ho ⟨u.opcode, u.sector, u.count, u.len⟩).symm.trans h
      exact .exchanged o (toSend_cases hs).1

/-- A step of a busy controller: the sequencer's move when the last primitive has been performed, then the due primitive. -/
theorem performed_of_turn {s t : State} (hb : s.busy = true) (h : turn s = .next t) :
    s.seq.done = false ∧ Performed s t ∨ s.seq.done = true ∧ Performed (moveOn s) t := by
  cases hd : s.seq.done with
  | false => exact .inl ⟨rfl, performed_of_issue hd (turn_due hd hb ▸ h)⟩
  | true => exact .inr ⟨rfl, performed_of_issue (moveOn_moves s).due (turn_at_rest hd hb ▸ h)⟩

/-! ### The frame of a step -/

/-- The state without anything a move of the sequencer can change. -/
def State.outside (s : State) : State := clearSession (clearMulti s.eraseWork)

theorem Stage.clear_forget (st : Stage) (s : State) :
    clearSession (clearMulti (st.forget s)) = clearSession (clearMulti s) := by
  cases st <;> rfl

theorem Seq.clear_forget (q : Seq) (s : State) :
    clearSession (clearMulti (q.forget s)) = clearSession (clearMulti s) := by
  by_cases h : q.point = .clkFast
  · simp only [Seq.forget, h]; rfl
  · rw [Seq.forget_of_ne h, Stage.clear_forget]

/-- A move leaves everything outside the session, `MB_OPEN` and the working registers. -/
theorem moveOn_outside (s : State) : (moveOn s).outside = s.outside := by
  have hframe := congrArg (fun x => clearSession (clearMulti x)) (moveOn_moves s).frame
  simp only [Seq.clear_forget] at hframe
  exact hframe

/-- A field outside the session, `MB_OPEN` and the working registers is kept by a move. -/
theorem moveOn_outside_field {α : Type} (φ : State → α) (hφ : ∀ x : State, φ x.outside = φ x) (s : State) :
    φ (moveOn s) = φ s := by
  rw [← hφ (moveOn s), moveOn_outside, hφ]

theorem sameHostSide_of_outside {s t : State} (h : t.outside = s.outside) : s.sameHostSide t :=
  ⟨(congrArg State.cfg h :), (congrArg State.opcode h :), (congrArg State.sector h :), (congrArg State.count h :),
    (congrArg State.len h :), (congrArg State.latOp h :), (congrArg State.latSector h :), (congrArg State.latCount h :),
    (congrArg State.latLen h :), (congrArg State.inputs h :), (congrArg State.cd h :), (congrArg State.rdata h :)⟩

theorem noExchange_of_outside {s t : State} (h : t.outside = s.outside) : s.noExchange t :=
  ⟨(congrArg State.xchgs h :), (congrArg State.miso h :), (congrArg State.mosi h :)⟩

/-- The host's side, transitively. -/
theorem State.sameHostSide.trans {s u t : State} (h : s.sameHostSide u) (h' : u.sameHostSide t) : s.sameHostSide t where
  cfg := h'.cfg.trans h.cfg
  opcode := h'.opcode.trans h.opcode
  sector := h'.sector.trans h.sector
  count := h'.count.trans h.count
  len := h'.len.trans h.len
  latOp := h'.latOp.trans h.latOp
  latSector := h'.latSector.trans h.latSector
  latCount := h'.latCount.trans h.latCount
  latLen := h'.latLen.trans h.latLen
  inputs := h'.inputs.trans h.inputs
  cd := h'.cd.trans h.cd
  rdata := h'.rdata.trans h.rdata

/-- No primitive, and no completion, touches the host's side. -/
theorem Performed.sameHostSide {u t : State} (h : Performed u t) : u.sameHostSide t := by
  cases h with
  | timeSampled => constructor <;> simp
  | _ => constructor <;> rfl

/-- Only the completion ends the operation, and it writes `RESULT` and `VALUE` together (R282). -/
theorem Performed.result {u t : State} (h : Performed u t) :
    t.busy = u.busy ∧ t.result = u.result ∧ t.value = u.value ∨
      t.busy = false ∧ t.seq = Seq.idle ∧ (t.result ≠ .ok → t.value = 0) := by
  cases h with
  | timeSampled => exact .inl ⟨sampleNow_busy u, sampleNow_result u, sampleNow_value u⟩
  | completed e v => exact .inr ⟨rfl, rfl, fun he => if_neg he⟩
  | _ => exact .inl ⟨rfl, rfl, rfl⟩

/-- A step of a busy controller is a primitive performed in a state that is the old one but for what a move may change. -/
theorem performed_of_turn_outside {s t : State} (hb : s.busy = true) (h : turn s = .next t) :
    ∃ u, u.outside = s.outside ∧ Performed u t := by
  rcases performed_of_turn hb h with ⟨-, hp⟩ | ⟨-, hp⟩
  · exact ⟨s, rfl, hp⟩
  · exact ⟨moveOn s, moveOn_outside s, hp⟩

/-- Settles O53: an idle controller does nothing; a busy one moves the sequencer, which touches none of these registers, and
performs one primitive, of which only the completion writes RESULT, VALUE and BUSY. -/
theorem controllerLeavesHostSide : Obligations.ControllerLeavesHostSide := by
  intro s t h
  cases hb : s.busy with
  | false =>
    cases (turn_idle hb).symm.trans h
    exact ⟨sameHostSide_of_outside rfl, fun _ => ⟨rfl, rfl⟩, fun hbusy => absurd hbusy.1 Bool.false_ne_true⟩
  | true =>
    obtain ⟨u, hu, hp⟩ := performed_of_turn_outside hb h
    have hbusy : u.busy = true := (congrArg State.busy hu :).trans hb
    refine ⟨(sameHostSide_of_outside hu).trans hp.sameHostSide, fun ht => ?_, fun ht => ?_⟩
    · rcases hp.result with ⟨-, hr, hv⟩ | ⟨hf, -⟩
      · exact ⟨hr.trans (congrArg State.result hu :), hv.trans (congrArg State.value hu :)⟩
      · exact absurd (ht.symm.trans hf) (by decide)
    · rcases hp.result with ⟨hk, -⟩ | ⟨-, hseq⟩
      · exact absurd (hk.symm.trans ht.2) (by simp [hbusy])
      · exact hseq

/-- One exchange, or none; time does not go back (R120, R123). -/
theorem Performed.exchange {u t : State} (h : Performed u t) :
    (u.noExchange t ∨
      t.xchgs = u.xchgs + 1 ∧ t.miso = u.miso.tail ∧ (∀ b r, u.miso = b :: r → t.rx = b) ∧ t.seq.done = true) ∧
    u.now ≤ t.now := by
  cases h with
  | exchanged o =>
    refine ⟨.inr ⟨rfl, rfl, fun b r hm => ?_, rfl⟩, Nat.le_refl _⟩
    simp only [xchg_rx, State.nextMiso, hm]
  | timeSampled =>
    refine ⟨.inl ⟨sampleNow_xchgs u, sampleNow_miso u, sampleNow_mosi u⟩, ?_⟩
    unfold sampleNow
    split
    · exact Nat.le_refl _
    case h_2 hbase => simp [State.timeNow, hbase]
  | _ => exact ⟨.inl ⟨rfl, rfl, rfl⟩, Nat.le_refl _⟩

/-- Settles O56: the move of the sequencer exchanges nothing, and the primitive is at most one exchange. -/
theorem oneExchangePerStep : Obligations.OneExchangePerStep := by
  intro s t h
  cases hb : s.busy with
  | false =>
    cases (turn_idle hb).symm.trans h
    exact ⟨.inl ⟨rfl, rfl, rfl⟩, Nat.le_refl _⟩
  | true =>
    obtain ⟨u, hu, hp⟩ := performed_of_turn_outside hb h
    have hx : u.xchgs = s.xchgs := (congrArg State.xchgs hu :)
    have hm : u.miso = s.miso := (congrArg State.miso hu :)
    have hn : u.now = s.now := (congrArg State.now hu :)
    obtain ⟨hxchg, hnow⟩ := hp.exchange
    refine ⟨?_, hn ▸ hnow⟩
    rcases hxchg with hno | hone
    · exact .inl ⟨hno.xchgs.trans hx, hno.miso.trans hm, hno.mosi.trans (congrArg State.mosi hu :)⟩
    · exact .inr (hx ▸ hm ▸ hone)

/-! ### The request registers are not seen -/

theorem sampleNow_withRequest (q : Request) (u : State) :
    sampleNow (u.withRequest q) = (sampleNow u).withRequest q := by
  cases hbase : u.cfg.timeBase <;> simp [sampleNow, State.withRequest, State.timeNow, hbase]

theorem perform_withRequest {u t : State} (q : Request) (h : perform u = .next t) :
    perform (u.withRequest q) = .next (t.withRequest q) := by
  have hseq : (u.withRequest q).seq = u.seq := rfl
  have hp : ∀ p, u.seq.point = p → (u.withRequest q).seq.point = p := fun _ h => h
  cases hpt : u.seq.point <;> simp only [perform, hpt, reduceCtorEq] at h <;>
    simp only [perform, hp _ hpt]
  case dataPut =>
    obtain ⟨ha, rfl⟩ := memWrite_eq_next.1 h
    exact memWrite_eq_next.2 ⟨ha, rfl⟩
  case dataGet =>
    obtain ⟨ha, rfl⟩ := memRead_eq_next.1 h
    exact memRead_eq_next.2 ⟨ha, rfl⟩
  case pureGet =>
    obtain ⟨ha, rfl⟩ := memRead_eq_next.1 h
    exact memRead_eq_next.2 ⟨ha, rfl⟩
  case opDeadline => cases h; rw [sampleNow_withRequest]
  case opCheck => cases h; rw [sampleNow_withRequest]
  case tokDeadline => cases h; rw [sampleNow_withRequest]
  case tokCheck => cases h; rw [sampleNow_withRequest]
  case busyDeadline => cases h; rw [sampleNow_withRequest]
  case busyCheck => cases h; rw [sampleNow_withRequest]
  all_goals cases h; rfl

theorem issue_withRequest {u t : State} (q : Request) (hd : u.seq.done = false) (h : issue u = .next t) :
    issue (u.withRequest q) = .next (t.withRequest q) := by
  cases hs : toSend u with
  | none =>
    have hs' : toSend (u.withRequest q) = none := hs
    rw [issue_perform hs] at h
    rw [issue_perform hs', perform_withRequest q h]
  | some cw =>
    obtain ⟨c, w⟩ := cw
    cases hdec : decode c w with
    | error e => simp only [issue, hs, hdec, reduceCtorEq] at h
    | ok i =>
      obtain ⟨o, ho⟩ := issue_of_sent hd hs hdec
      cases (ho ⟨u.opcode, u.sector, u.count, u.len⟩).symm.trans h
      exact ho q

/-- Settles O54: neither the sequencer's move nor a primitive looks at CTRL, SECTOR, COUNT or LEN, and none writes them. -/
theorem requestRegistersNotSeen : Obligations.RequestRegistersNotSeen := by
  intro s t o a b c h
  suffices hq : ∀ q, turn (s.withRequest q) = .next (t.withRequest q) from hq ⟨o, a, b, c⟩
  intro q
  cases hb : s.busy with
  | false =>
    cases (turn_idle hb).symm.trans h
    exact turn_idle hb
  | true =>
    have hb' : (s.withRequest q).busy = true := hb
    cases hd : s.seq.done with
    | false =>
      rw [turn_due hd hb] at h
      rw [turn_due (s := s.withRequest q) hd hb', issue_withRequest q hd h]
    | true =>
      rw [turn_at_rest hd hb] at h
      rw [turn_at_rest (s := s.withRequest q) hd hb', (moveOn_moves s).blind q,
        issue_withRequest q (moveOn_moves s).due h]

end Sys2Proof.Machine
end

section
/-! PROOFS. The invariant (O47). Between the two halves of a step the due primitive must lead to a legal position (`State.dueOk`):
every move of the sequencer from a legal position makes it so, and every primitive then restores the invariant. -/

namespace Sys2Proof.Machine

/-! ### The state between the two halves of a step -/

/-- The due primitive leads to a legal position: the outputs are taken as it sets them, and a completion finds the session quiet.
Nothing is asked of a position that has no primitive. -/
def State.dueOk (u : State) : Prop :=
  match u.seq.point with
  | .finish _ _ => u.quiet ∧ u.mbOpen = false
  | .stuck => True
  | .tdCs => State.positionOk { u with cs := false } ∧ u.mbOpen = u.seq.stage.multiOpen
  | .tdClk => State.positionOk { u with clkFast := false } ∧ u.mbOpen = u.seq.stage.multiOpen
  | .csAssert => State.positionOk { u with cs := true } ∧ u.mbOpen = u.seq.stage.multiOpen
  | .clkFast => State.positionOk { u with clkFast := true } ∧ u.mbOpen = u.seq.stage.multiOpen
  | _ => u.positionOk ∧ u.mbOpen = u.seq.stage.multiOpen

theorem finish_dueOk {s : State} (e : Err) (v : Word) (hq : s.quiet) (hm : s.mbOpen = false) :
    (s.due (.finish e v)).dueOk := ⟨hq, hm⟩

theorem beginTeardown_dueOk {s : State} (k : AfterTeardown) (hm : s.mbOpen = false) : (beginTeardown k s).dueOk :=
  ⟨⟨.inl rfl, rfl⟩, hm⟩

theorem noSuchPosition_dueOk (s : State) : (noSuchPosition s).dueOk := trivial

theorem State.sessionOpen.quiet {s : State} (h : s.sessionOpen) : s.quiet := by
  obtain ⟨hl, hcs, hclk⟩ := h
  simp only [State.quiet, hl]
  exact ⟨hcs, hclk⟩

/-! ### Legal positions, by the kind of procedure -/

/-- The session and outputs that a command of stage `st` needs (R126, R184, R220). -/
def Stage.commandFits (st : Stage) (s : State) : Prop :=
  match st with
  | .initReset => s.selectedSlow .uninit
  | .initVcheck => s.selectedSlow .idle
  | .initCrcen => s.selectedSlow .idle
  | .initOcr => s.selectedSlow .idle
  | .initApp => s.selectedSlow .idle
  | .initOpCond => s.selectedSlow .idle
  | .initCap => s.selectedSlow .idle
  | .initBlklen => s.selectedSlow .idle
  | .readBlockCmd => s.sessionOpen
  | .writeBlockCmd => s.sessionOpen
  | .readBlocksCmd => s.sessionOpen ∧ s.multi
  | .readBlocksStop => s.sessionOpen
  | .preErasePrefix => s.sessionOpen ∧ s.multi
  | .preEraseCount => s.sessionOpen ∧ s.multi
  | .writeBlocksCmd => s.sessionOpen ∧ s.multi
  | .sectorCountCmd => s.sessionOpen
  | _ => False

/-- What a frame being received in stage `st` needs (R222, R223). -/
def Stage.readFits (st : Stage) (s : State) : Prop :=
  match st with
  | .readBlockData => s.sessionOpen
  | .readBlocksData => s.sessionOpen ∧ s.inBlocks
  | .sectorCountData => s.sessionOpen
  | _ => False

/-- What a frame being written in stage `st` needs (R225). -/
def Stage.writeFits (st : Stage) (s : State) : Prop :=
  match st with
  | .writeBlockData => s.sessionOpen
  | .writeBlocksData => s.sessionOpen ∧ s.inBlocks
  | _ => False

/-- What a busy wait of stage `st` needs (R224). -/
def Stage.busyFits (st : Stage) (s : State) : Prop :=
  match st with
  | .writeBlockBusy _ => s.sessionOpen
  | .writeBlocksBusy _ => s.sessionOpen ∧ s.inBlocks
  | .readBlocksBusy _ => s.sessionOpen
  | .writeBlocksStop => s.sessionOpen
  | _ => False

theorem Point.inCommand.inExtCommand {p : Point} (h : p.inCommand) : p.inExtCommand := by
  cases p
  case ext => exact h.elim
  all_goals exact h

theorem Point.inRead.mono {n b : Nat} {stored stored' : Prop} (hs : stored → stored') {p : Point}
    (h : p.inRead n b stored) : p.inRead n b stored' := by
  cases p
  case dataPut => exact ⟨h.1, hs h.2⟩
  all_goals exact h

theorem positionOk_of_command {s : State} (h : s.seq.stage.commandFits s) (hp : s.seq.point.inCommand) :
    s.positionOk := by
  unfold State.positionOk
  cases hst : s.seq.stage <;> rw [hst] at h
  case initVcheck | initOcr | initCap => exact ⟨hp.inExtCommand, h⟩
  case initApp | initOpCond | readBlocksStop => exact ⟨.inr hp, h⟩
  case initReset | initCrcen | initBlklen | readBlockCmd | writeBlockCmd | readBlocksCmd | preErasePrefix |
      preEraseCount | writeBlocksCmd | sectorCountCmd => exact ⟨hp, h⟩
  all_goals exact h.elim

theorem positionOk_of_ext {s : State} (h : s.seq.stage.commandFits s) (he : s.seq.stage.extended = true)
    (hp : s.seq.point.inExtCommand) : s.positionOk := by
  unfold State.positionOk
  cases hst : s.seq.stage <;> rw [hst] at h he
  case initVcheck | initOcr | initCap => exact ⟨hp, h⟩
  all_goals cases he

theorem positionOk_of_read {s : State} (h : s.seq.stage.readFits s)
    (hp : s.seq.point.inRead s.frameSize s.byteIdx (s.seq.stage ≠ .sectorCountData)) : s.positionOk := by
  unfold State.positionOk
  unfold State.frameSize at hp
  cases hst : s.seq.stage <;> rw [hst] at h hp
  case readBlockData | readBlocksData => exact ⟨hp.mono fun _ => trivial, h⟩
  case sectorCountData => exact ⟨hp.mono fun hne => hne rfl, h⟩
  all_goals exact h.elim

theorem positionOk_of_write {s : State} (h : s.seq.stage.writeFits s)
    (hp : s.seq.point.inWrite s.startToken s.byteIdx) : s.positionOk := by
  unfold State.positionOk
  unfold State.startToken at hp
  cases hst : s.seq.stage <;> rw [hst] at h hp
  case writeBlockData | writeBlocksData => exact ⟨hp, h⟩
  all_goals exact h.elim

theorem positionOk_of_busy {s : State} (h : s.seq.stage.busyFits s) (hp : s.seq.point.inBusy) : s.positionOk := by
  unfold State.positionOk
  cases hst : s.seq.stage <;> rw [hst] at h
  case writeBlockBusy | readBlocksBusy | writeBlocksBusy => exact ⟨hp, h⟩
  case writeBlocksStop => exact ⟨.inr (.inr hp), h⟩
  all_goals exact h.elim

/-! ### The moves of INITIALIZE -/

theorem sendCommand_dueOk {s : State} {st : Stage} (idx : BitVec 6) (arg : Word) (h : st.commandFits s)
    (hm : s.mbOpen = st.multiOpen) : (sendCommand st idx arg s).dueOk :=
  ⟨positionOk_of_command (s := sendCommand st idx arg s) h (Nat.zero_le 5), hm⟩

section Init
variable {s : State} (hm : s.mbOpen = false)
include hm

theorem afterReset_dueOk (h : s.selectedSlow .uninit) : (afterReset s).dueOk := by
  unfold afterReset
  split_ifs
  · exact sendCommand_dueOk (st := .initVcheck) (s := { s with lifecycle := .idle }) _ _ ⟨rfl, h.2⟩ hm
  · exact sendCommand_dueOk (st := .initReset) (s := { s with attempt := s.attempt + 1 }) _ _ h hm
  · exact beginTeardown_dueOk _ hm

theorem requireInit_dueOk {e : Err} {k : State → State} (hk : (k s).dueOk) : (requireInit e k s).dueOk := by
  unfold requireInit
  split_ifs
  · exact hk
  · exact beginTeardown_dueOk _ hm

variable (h : s.selectedSlow .idle)
include h

theorem beginCrcEnable_dueOk : (beginCrcEnable s).dueOk := by
  unfold beginCrcEnable
  split_ifs
  · exact sendCommand_dueOk (st := .initCrcen) _ _ h hm
  · exact sendCommand_dueOk (st := .initOcr) (s := { s with crcOn := false }) _ _ h hm

theorem afterVcheck_dueOk : (afterVcheck s).dueOk := by
  unfold afterVcheck
  split
  · exact beginTeardown_dueOk _ hm
  case h_2 l _ => exact beginCrcEnable_dueOk (s := { s with legacy := l }) hm h

theorem afterCrcen_dueOk : (afterCrcen s).dueOk :=
  sendCommand_dueOk (st := .initOcr) (s := { s with crcOn := accepted s.resp }) _ _ h hm

theorem afterOcr_dueOk : (afterOcr s).dueOk := by
  refine requireInit_dueOk hm ?_
  split_ifs
  · exact beginTeardown_dueOk _ hm
  · exact ⟨⟨.inl rfl, h⟩, hm⟩

theorem afterApp_dueOk : (afterApp s).dueOk :=
  requireInit_dueOk hm (sendCommand_dueOk (st := .initOpCond) _ _ h hm)

theorem afterOpDeadline_dueOk : (afterOpDeadline s).dueOk :=
  sendCommand_dueOk (st := .initApp) (s := { s with deadline := s.tval + s.cfg.tOpcond }) _ _ h hm

theorem afterOpCond_dueOk (hst : s.seq.stage = .initOpCond) : (afterOpCond s).dueOk := by
  refine requireInit_dueOk hm ?_
  split_ifs
  · exact sendCommand_dueOk (st := .initCap) _ _ h hm
  · refine ⟨?_, ?_⟩
    · simp only [State.positionOk, State.due_seq, hst]
      exact ⟨.inl trivial, h⟩
    · rw [State.due_seq, hst]; exact hm

theorem afterOpCheck_dueOk : (afterOpCheck s).dueOk := by
  unfold afterOpCheck
  split_ifs
  · exact beginTeardown_dueOk _ hm
  · exact sendCommand_dueOk (st := .initApp) _ _ h hm

/-- The Ready step is due: its position is legal once the clock is fast (R193). -/
theorem ready_dueOk : (s.enter .initReady .clkFast).dueOk := by
  obtain ⟨hl, hcs, -, hsc⟩ := h
  exact ⟨⟨rfl, hl, hcs, rfl, hsc⟩, hm⟩

theorem beginBlkLen_dueOk : (beginBlkLen s).dueOk := by
  unfold beginBlkLen
  split_ifs
  · exact ready_dueOk hm h
  · exact sendCommand_dueOk (st := .initBlklen) _ _ h hm

theorem afterCap_dueOk : (afterCap s).dueOk :=
  requireInit_dueOk hm (beginBlkLen_dueOk (s := { s with blockAddr := s.respx.getLsbD 30 }) hm h)

theorem afterBlkLen_dueOk : (afterBlkLen s).dueOk := requireInit_dueOk hm (ready_dueOk hm h)

end Init

/-! ### The moves of the transfers -/

/-- Block 0 is one of a multi-block transfer. -/
theorem State.multi.zero_lt {s : State} (h : s.multi) : 0 < s.latCount.toNat :=
  Nat.lt_of_lt_of_le Nat.zero_lt_two h.1

section Transfer
variable {s : State} (h : s.sessionOpen)
include h

section Single
variable (hm : s.mbOpen = false)
include hm

theorem raises_dueOk (e : Err) : (raises e s).dueOk := finish_dueOk e 0 h.quiet hm

theorem returns_dueOk (v : Word) : (returns v s).dueOk := finish_dueOk .ok v h.quiet hm

theorem beginReadBlock_dueOk : (beginReadBlock s).dueOk :=
  sendCommand_dueOk (st := .readBlockCmd) (s := { s with attempt := 1 }) _ _ h hm

theorem retryOrRaise_dueOk (e : Err) : (retryOrRaise e s).dueOk := by
  unfold retryOrRaise
  split_ifs
  · exact sendCommand_dueOk (st := .readBlockCmd) (s := { s with attempt := s.attempt + 1 }) _ _ h hm
  · exact raises_dueOk h hm e

theorem afterReadBlockCmd_dueOk : (afterReadBlockCmd s).dueOk := by
  unfold afterReadBlockCmd
  split_ifs
  · exact ⟨⟨trivial, h⟩, hm⟩
  · exact retryOrRaise_dueOk h hm _

theorem afterReadBlockData_dueOk (e : Err) : (afterReadBlockData e s).dueOk := by
  unfold afterReadBlockData
  split_ifs
  · exact returns_dueOk h hm 0
  · exact retryOrRaise_dueOk h hm e

theorem beginWriteBlock_dueOk : (beginWriteBlock s).dueOk := sendCommand_dueOk (st := .writeBlockCmd) _ _ h hm

theorem afterWriteBlockCmd_dueOk : (afterWriteBlockCmd s).dueOk := by
  unfold afterWriteBlockCmd
  split_ifs
  · exact ⟨⟨trivial, h⟩, hm⟩
  · exact raises_dueOk h hm _

theorem beginSectorCount_dueOk : (beginSectorCount s).dueOk := by
  unfold beginSectorCount
  split_ifs
  · exact returns_dueOk h hm _
  · exact sendCommand_dueOk (st := .sectorCountCmd) _ _ h hm

theorem afterSectorCountCmd_dueOk : (afterSectorCountCmd s).dueOk := by
  unfold afterSectorCountCmd
  split_ifs
  · exact ⟨⟨trivial, h⟩, hm⟩
  · exact raises_dueOk h hm _

theorem afterSectorCountData_dueOk (e : Err) : (afterSectorCountData e s).dueOk := by
  rw [afterSectorCountData_eq]
  split_ifs
  · exact returns_dueOk
      (s := { s with scValue := (csdParse s.csdReg.toList).2, scValid := true }) h hm (csdParse s.csdReg.toList).2
  · exact raises_dueOk h hm _
  · exact raises_dueOk h hm e

end Single

theorem stopRead_dueOk (hm : s.mbOpen = true) : (stopRead s).dueOk :=
  sendCommand_dueOk (st := .readBlocksStop) _ _ h hm

theorem stopWrite_dueOk (hm : s.mbOpen = true) : (stopWrite s).dueOk := ⟨⟨.inl rfl, h⟩, hm⟩

theorem afterStop_dueOk (hm : s.mbOpen = true) : (afterStop s).dueOk := ⟨⟨trivial, h⟩, hm⟩

section Multi
variable (hmu : s.multi)
include hmu

theorem beginWriteMulti_dueOk : (beginWriteMulti s).dueOk :=
  sendCommand_dueOk (st := .writeBlocksCmd) (s := { s with mbOpen := true }) _ _ ⟨h, hmu⟩ rfl

theorem afterPreErasePrefix_dueOk (hm : s.mbOpen = false) : (afterPreErasePrefix s).dueOk := by
  unfold afterPreErasePrefix
  split_ifs
  · exact sendCommand_dueOk (st := .preEraseCount) _ _ ⟨h, hmu⟩ hm
  · exact beginWriteMulti_dueOk h hmu

theorem afterReadBlocksCmd_dueOk : (afterReadBlocksCmd s).dueOk := by
  unfold afterReadBlocksCmd
  split_ifs
  · exact ⟨⟨trivial, h, hmu, hmu.zero_lt⟩, rfl⟩
  · exact stopRead_dueOk (s := { s with firstErr := xferCheck s.resp, mbOpen := true }) h rfl

theorem afterWriteBlocksCmd_dueOk : (afterWriteBlocksCmd s).dueOk := by
  unfold afterWriteBlocksCmd
  split_ifs
  · exact ⟨⟨trivial, h, hmu, hmu.zero_lt⟩, rfl⟩
  · exact stopWrite_dueOk (s := { s with firstErr := xferCheck s.resp, mbOpen := true }) h rfl

end Multi

section Blocks
variable (hb : s.inBlocks) (hm : s.mbOpen = true)
include hb hm

theorem afterReadBlocksData_dueOk (e : Err) (hst : s.seq.stage = .readBlocksData) : (afterReadBlocksData e s).dueOk := by
  unfold afterReadBlocksData
  split_ifs with he hlast
  · refine ⟨?_, ?_⟩
    · simp only [State.positionOk, State.due_seq, hst]
      exact ⟨trivial, h, hb.1, hlast⟩
    · rw [State.due_seq, hst]; exact hm
  · exact stopRead_dueOk h hm
  · exact stopRead_dueOk (s := { s with firstErr := e }) h hm

theorem afterWriteBlocksData_dueOk (e : Err) : (afterWriteBlocksData e s).dueOk := by
  unfold afterWriteBlocksData
  split_ifs with he hlast
  · exact ⟨⟨trivial, h, hb.1, hlast⟩, hm⟩
  · exact stopWrite_dueOk h hm
  · exact stopWrite_dueOk (s := { s with firstErr := e }) h hm

end Blocks
end Transfer

/-! ### Entries and preconditions -/

/-- What the preconditions of a transfer leave (R220). -/
theorem preCheck_eq_ok {s : State} {n : Nat} (h : s.preCheck n = .ok) : n ≠ 0 ∧ 512 * n ≤ s.cfg.hostbufSize := by
  unfold State.preCheck blockSize at h
  split_ifs at h with h0 hs hb
  exact ⟨h0, Nat.le_of_not_lt hb⟩

/-- An accepted count that is not 1 is a multi-block transfer (R220, R236). -/
theorem multi_of_preCheck {s : State} (h : s.preCheck s.latCount.toNat = .ok) (h1 : s.latCount ≠ 1) : s.multi := by
  obtain ⟨h0, hfit⟩ := preCheck_eq_ok h
  have hne : s.latCount.toNat ≠ 1 := fun hone => h1 (BitVec.eq_of_toNat_eq hone)
  exact ⟨by omega, hfit⟩

theorem beginReadBlocks_dueOk {s : State} (hm : s.mbOpen = false) (hs : s.sessionOpen)
    (hok : s.preCheck s.latCount.toNat = .ok) : (beginReadBlocks s).dueOk := by
  unfold beginReadBlocks
  split_ifs with h1
  · exact beginReadBlock_dueOk hs hm
  · exact sendCommand_dueOk (st := .readBlocksCmd) (s := { s with mbOpen := true }) _ _
      ⟨hs, multi_of_preCheck hok h1⟩ rfl

theorem beginWriteBlocks_dueOk {s : State} (hm : s.mbOpen = false) (hs : s.sessionOpen)
    (hok : s.preCheck s.latCount.toNat = .ok) : (beginWriteBlocks s).dueOk := by
  unfold beginWriteBlocks
  split_ifs with h1
  · exact beginWriteBlock_dueOk hs hm
  · exact sendCommand_dueOk (st := .preErasePrefix) _ _ ⟨hs, multi_of_preCheck hok h1⟩ hm
  · exact beginWriteMulti_dueOk hs (multi_of_preCheck hok h1)

section Entry
variable {s : State} (hq : s.quiet) (hm : s.mbOpen = false)
include hq hm

theorem pureGet_dueOk {a : Nat} (hst : s.seq.stage = .crc7 ∨ s.seq.stage = .crc16) (ha : a < s.latLen.toNat)
    (hlen : s.latLen.toNat ≤ s.cfg.hostbufSize) : (s.due (.pureGet a)).dueOk := by
  refine ⟨?_, ?_⟩
  · rcases hst with hst | hst <;> simp only [State.positionOk, State.due_seq, hst] <;> exact ⟨ha, hlen, hq⟩
  · rcases hst with hst | hst <;> rw [State.due_seq, hst] <;> exact hm

theorem beginCrc_dueOk (hst : s.seq.stage = .crc7 ∨ s.seq.stage = .crc16) : (beginCrc s).dueOk := by
  unfold beginCrc
  split_ifs with hlen hzero
  · exact finish_dueOk _ 0 hq hm
  · exact finish_dueOk _ 0 hq hm
  · have hpos : 0 < s.latLen.toNat := Nat.pos_of_ne_zero fun h0 => hzero (BitVec.eq_of_toNat_eq h0)
    exact pureGet_dueOk hq hm hst hpos (Nat.le_of_not_lt hlen)

theorem present_dueOk
    (hst : s.seq.stage ∈
      ([.cardPresent, .readBlock, .writeBlock, .readBlocks, .writeBlocks, .sectorCount] : List Stage)) :
    (s.due .present).dueOk := by
  simp only [List.mem_cons, List.not_mem_nil, or_false] at hst
  refine ⟨?_, ?_⟩
  · unfold State.positionOk
    rw [State.due_seq]
    rcases hst with hst | hst | hst | hst | hst | hst <;> rw [hst] <;> exact ⟨.inr rfl, hq⟩
  · rw [State.due_seq]
    rcases hst with hst | hst | hst | hst | hst | hst <;> rw [hst] <;> exact hm

theorem entry_dueOk (hc : ∀ c, s.seq.stage = .csdParse c → c = []) : (entry s).dueOk := by
  unfold entry
  split
  case h_1 => exact finish_dueOk _ 0 hq hm
  case h_3 => exact finish_dueOk _ _ hq hm
  case h_4 => exact beginTeardown_dueOk _ hm
  case h_5 => exact beginTeardown_dueOk _ hm
  case h_11 hst =>
    exact beginCrc_dueOk (s := { s with crc7r := if s.latLen.toNat > s.cfg.hostbufSize then s.crc7r else 0 }) hq hm (.inl hst)
  case h_12 hst =>
    exact beginCrc_dueOk (s := { s with crc16r := if s.latLen.toNat > s.cfg.hostbufSize then s.crc16r else 0 }) hq hm (.inr hst)
  case h_13 c hst =>
    obtain rfl := hc c hst
    refine ⟨?_, ?_⟩
    · simp only [State.positionOk, State.due_seq, hst]
      exact ⟨rfl, by decide, hq⟩
    · rw [State.due_seq, hst]; exact hm
  case h_14 => exact noSuchPosition_dueOk s
  all_goals exact present_dueOk hq hm (by simp [*])

theorem preSession_dueOk {k : State → State} (hk : s.sessionOpen → (k s).dueOk) : (preSession k s).dueOk := by
  unfold preSession
  split_ifs with hpv hl
  · exact beginTeardown_dueOk _ hm
  · exact finish_dueOk _ 0 hq hm
  · have hl : s.lifecycle = .ready := by simpa using hl
    refine hk ⟨hl, ?_⟩
    simpa only [State.quiet, hl] using hq

theorem preTransfer_dueOk {k : State → State}
    (hk : s.sessionOpen → s.preCheck s.transferCount = .ok → (k s).dueOk) : (preTransfer k s).dueOk := by
  refine preSession_dueOk hq hm fun hs => ?_
  split_ifs with hok
  · exact hk hs hok
  · exact finish_dueOk _ 0 hq hm

/-- After the `Present()` of an operation other than INITIALIZE. -/
theorem afterPresent_dueOk (hst : s.seq.stage ≠ .initStart) : (afterPresent s).dueOk := by
  unfold afterPresent
  split
  case h_1 =>
    split_ifs
    · exact finish_dueOk _ 1 hq hm
    · exact beginTeardown_dueOk _ hm
  case h_2 h => exact absurd h hst
  case h_3 => exact preTransfer_dueOk hq hm fun hs _ => beginReadBlock_dueOk hs hm
  case h_4 => exact preTransfer_dueOk hq hm fun hs _ => beginWriteBlock_dueOk hs hm
  case h_5 h =>
    refine preTransfer_dueOk hq hm fun hs hok => beginReadBlocks_dueOk hm hs ?_
    simpa only [State.transferCount, h] using hok
  case h_6 h =>
    refine preTransfer_dueOk hq hm fun hs hok => beginWriteBlocks_dueOk hm hs ?_
    simpa only [State.transferCount, h] using hok
  case h_7 => exact preSession_dueOk hq hm fun hs => beginSectorCount_dueOk hs hm
  case h_8 => exact noSuchPosition_dueOk s

end Entry

/-! ### Commands, frames and busy waits -/

section Command
variable {s : State} (h : s.seq.stage.commandFits s) (hm : s.mbOpen = s.seq.stage.multiOpen)
include h hm

theorem afterCommand_dueOk : (afterCommand s).dueOk := by
  unfold afterCommand
  split
  case h_17 => exact noSuchPosition_dueOk s
  all_goals
    have hst := ‹s.seq.stage = _›
    rw [hst] at h hm
  · exact afterReset_dueOk hm h
  · exact afterVcheck_dueOk hm h
  · exact afterCrcen_dueOk hm h
  · exact afterOcr_dueOk hm h
  · exact afterApp_dueOk hm h
  · exact afterOpCond_dueOk hm h hst
  · exact afterCap_dueOk hm h
  · exact afterBlkLen_dueOk hm h
  · exact afterReadBlockCmd_dueOk h hm
  · exact afterWriteBlockCmd_dueOk h hm
  · exact afterReadBlocksCmd_dueOk h.1 h.2
  · exact afterStop_dueOk h hm
  · exact afterPreErasePrefix_dueOk h.1 h.2 hm
  · exact beginWriteMulti_dueOk h.1 h.2
  · exact afterWriteBlocksCmd_dueOk h.1 h.2
  · exact afterSectorCountCmd_dueOk h hm

/-- The next byte or poll of a command is due in its own stage. -/
theorem due_dueOk_of_command {p : Point} (hp : p.inCommand) : (s.due p).dueOk := by
  cases p
  case cmdTx | poll => exact ⟨positionOk_of_command (s := s.due _) h hp, hm⟩
  all_goals exact hp.elim

theorem ext_dueOk {k : Nat} (x : Word) (he : s.seq.stage.extended = true) (hk : 1 ≤ k ∧ k ≤ 4) :
    (s.due (.ext k x)).dueOk :=
  ⟨positionOk_of_ext (s := s.due (.ext k x)) h he hk, hm⟩

theorem pollReturns_dueOk (r : Byte) : (pollReturns r s).dueOk := by
  unfold pollReturns
  split_ifs with he
  · exact ext_dueOk (s := { s with resp := r }) h hm 0 he.2 (by decide)
  · exact afterCommand_dueOk (s := { s with resp := r }) h hm

theorem pollAgain_dueOk (k : Nat) : (pollAgain k s).dueOk := by
  unfold pollAgain
  split_ifs with hk
  · exact due_dueOk_of_command h hm ⟨by omega, hk⟩
  · exact pollReturns_dueOk h hm _

theorem afterPacketByte_dueOk (k : Nat) : (afterPacketByte k s).dueOk := by
  unfold afterPacketByte
  split_ifs with hk hst
  · exact due_dueOk_of_command h hm (p := .cmdTx (k + 1)) hk
  · rw [hst] at h hm
    refine ⟨?_, ?_⟩
    · simp only [State.positionOk, State.due_seq, hst]
      exact ⟨.inl trivial, h⟩
    · rw [State.due_seq, hst]; exact hm
  · exact due_dueOk_of_command h hm (p := .poll 1) ⟨Nat.le_refl 1, by decide⟩

theorem extEnds_dueOk (x : Word) : (extEnds x s).dueOk := by
  unfold extEnds
  split_ifs
  · exact afterCommand_dueOk (s := { s with respx := extWord x s.rx }) h hm
  · exact noSuchPosition_dueOk s

theorem moveOn_dueOk_of_command (hp : s.seq.point.inCommand) : (moveOn s).dueOk := by
  cases hpt : s.seq.point <;> rw [hpt] at hp
  case cmdTx k =>
    simp only [moveOn, hpt, advance]
    exact afterPacketByte_dueOk h hm k
  case poll k =>
    simp only [moveOn, hpt, statusReceived]
    split_ifs
    · exact pollReturns_dueOk h hm _
    · exact pollAgain_dueOk h hm k
  all_goals exact hp.elim

theorem moveOn_dueOk_of_ext (he : s.seq.stage.extended = true) (hp : s.seq.point.inExtCommand) : (moveOn s).dueOk := by
  cases hpt : s.seq.point <;> rw [hpt] at hp
  case ext k x =>
    simp only [moveOn, hpt]
    split_ifs with hk
    · exact extEnds_dueOk h hm x
    · have hk4 : k ≠ 4 := fun h4 => hk ⟨h4, he⟩
      simp only [advance, hpt]
      exact ext_dueOk h hm _ he ⟨by omega, by have := hp.2; omega⟩
  case cmdTx | poll => exact moveOn_dueOk_of_command h hm (hpt ▸ hp)
  all_goals exact hp.elim

end Command

theorem State.frameSize_pos (s : State) : 0 < s.frameSize := by
  unfold State.frameSize
  split <;> decide

section Read
variable {s : State} (h : s.seq.stage.readFits s) (hm : s.mbOpen = s.seq.stage.multiOpen)
include h hm

theorem afterFrame_dueOk (e : Err) : (afterFrame e s).dueOk := by
  unfold afterFrame
  split
  case h_4 => exact noSuchPosition_dueOk s
  all_goals
    have hst := ‹s.seq.stage = _›
    rw [hst] at h hm
  · exact afterReadBlockData_dueOk h hm e
  · exact afterReadBlocksData_dueOk h.1 h.2 hm e hst
  · exact afterSectorCountData_dueOk h hm e

/-- The next primitive of a received frame is due in its own stage. -/
theorem due_dueOk_of_read {p : Point} (hp : p.inRead s.frameSize s.byteIdx (s.seq.stage ≠ .sectorCountData)) :
    (s.due p).dueOk := by
  have hpos : (s.due p).positionOk := positionOk_of_read (s := s.due p) h hp
  cases p
  case tokDeadline | tokWait | tokCheck | dataRx | dataPut | crcHi | crcLo => exact ⟨hpos, hm⟩
  all_goals exact hp.elim

theorem frameStarts_dueOk : (frameStarts s).dueOk :=
  due_dueOk_of_read (s := startFrame s) (p := .dataRx) h hm (State.frameSize_pos s)

theorem nextPayload_dueOk : (nextPayload s).dueOk := by
  unfold nextPayload
  split_ifs with hi
  · exact due_dueOk_of_read (s := { s with byteIdx := s.byteIdx + 1 }) (p := .dataRx) h hm hi
  · exact due_dueOk_of_read (p := .crcHi) h hm trivial

theorem afterPayloadRx_dueOk (hi : s.byteIdx < s.frameSize) : (afterPayloadRx s).dueOk := by
  unfold afterPayloadRx
  split
  · exact nextPayload_dueOk (s := { absorb s.rx s with csdReg := s.csdReg.setIfInBounds s.byteIdx s.rx }) h hm
  case h_2 hst => exact due_dueOk_of_read (s := absorb s.rx s) (p := .dataPut) h hm ⟨hi, hst⟩

theorem tokenReceived_dueOk : (tokenReceived s).dueOk := by
  unfold tokenReceived
  split_ifs
  · exact frameStarts_dueOk h hm
  · exact due_dueOk_of_read (p := .tokCheck) h hm trivial
  · exact afterFrame_dueOk h hm _
  · exact afterFrame_dueOk h hm _

theorem moveOn_dueOk_of_read
    (hp : s.seq.point.inRead s.frameSize s.byteIdx (s.seq.stage ≠ .sectorCountData)) : (moveOn s).dueOk := by
  cases hpt : s.seq.point <;> rw [hpt] at hp <;> simp only [moveOn, advance, hpt]
  case tokDeadline =>
    exact due_dueOk_of_read (s := { s with deadline := s.tval + s.cfg.tToken }) (p := .tokWait) h hm trivial
  case tokWait => exact tokenReceived_dueOk h hm
  case tokCheck =>
    split_ifs
    · exact afterFrame_dueOk h hm _
    · exact due_dueOk_of_read (p := .tokWait) h hm trivial
  case dataRx => exact afterPayloadRx_dueOk h hm hp
  case dataPut => exact nextPayload_dueOk h hm
  case crcHi => exact due_dueOk_of_read (p := .crcLo s.rx) h hm trivial
  case crcLo hi =>
    unfold afterCrcRx
    split_ifs
    · exact afterFrame_dueOk h hm _
    · exact afterFrame_dueOk h hm _
  all_goals exact hp.elim

end Read

section Write
variable {s : State} (h : s.seq.stage.writeFits s) (hm : s.mbOpen = s.seq.stage.multiOpen)
include h hm

theorem responseReceived_dueOk (b : Byte) : (responseReceived b s).dueOk := by
  unfold responseReceived
  split
  case h_3 => exact noSuchPosition_dueOk s
  all_goals
    have hst := ‹s.seq.stage = _›
    rw [hst] at h hm
  · exact ⟨⟨trivial, h⟩, hm⟩
  · exact ⟨⟨trivial, h⟩, hm⟩

/-- The next primitive of a written frame is due in its own stage. -/
theorem due_dueOk_of_write {p : Point} (hp : p.inWrite s.startToken s.byteIdx) : (s.due p).dueOk := by
  have hpos : (s.due p).positionOk := positionOk_of_write (s := s.due p) h hp
  cases p
  case pad | tokTx | dataGet | dataTx | crcTxHi | crcTxLo | dresp => exact ⟨hpos, hm⟩
  all_goals exact hp.elim

theorem moveOn_dueOk_of_write (hp : s.seq.point.inWrite s.startToken s.byteIdx) : (moveOn s).dueOk := by
  cases hpt : s.seq.point <;> rw [hpt] at hp <;> simp only [moveOn, advance, hpt]
  case pad => exact due_dueOk_of_write (p := .tokTx s.startToken) h hm rfl
  case tokTx =>
    unfold afterTokenTx
    split
    case h_1 hst => rw [hst] at h; exact h.elim
    case h_2 => exact due_dueOk_of_write (s := startFrame s) (p := .dataGet) h hm (show 0 < 512 by decide)
  case dataGet => exact due_dueOk_of_write (s := absorb s.mval s) (p := .dataTx) h hm hp
  case dataTx =>
    unfold afterPayloadTx
    split_ifs with hi
    · exact due_dueOk_of_write (s := { s with byteIdx := s.byteIdx + 1 }) (p := .dataGet) h hm hi
    · exact due_dueOk_of_write (p := .crcTxHi) h hm trivial
  case crcTxHi => exact due_dueOk_of_write (p := .crcTxLo) h hm trivial
  case crcTxLo => exact due_dueOk_of_write (p := .dresp) h hm trivial
  case dresp => exact responseReceived_dueOk h hm _
  all_goals exact hp.elim

end Write

section Busy
variable {s : State} (h : s.seq.stage.busyFits s) (hm : s.mbOpen = s.seq.stage.multiOpen)
include h hm

theorem afterBusy_dueOk (eb : Err) : (afterBusy eb s).dueOk := by
  unfold afterBusy
  split
  case h_5 => exact noSuchPosition_dueOk s
  all_goals
    have hst := ‹s.seq.stage = _›
    rw [hst] at h hm
  · exact finish_dueOk _ 0 (State.sessionOpen.quiet h) hm
  · exact afterWriteBlocksData_dueOk h.1 h.2 hm _
  · exact finish_dueOk (s := { s with mbOpen := false }) _ 0 (State.sessionOpen.quiet h) rfl
  · exact finish_dueOk (s := { s with mbOpen := false }) _ 0 (State.sessionOpen.quiet h) rfl

/-- The next primitive of a busy wait is due in its own stage. -/
theorem due_dueOk_of_busy {p : Point} (hp : p.inBusy) : (s.due p).dueOk := by
  have hpos : (s.due p).positionOk := positionOk_of_busy (s := s.due p) h hp
  cases p
  case busyDeadline | busyWait | busyCheck => exact ⟨hpos, hm⟩
  all_goals exact hp.elim

theorem moveOn_dueOk_of_busy (hp : s.seq.point.inBusy) : (moveOn s).dueOk := by
  cases hpt : s.seq.point <;> rw [hpt] at hp <;> simp only [moveOn, advance, hpt]
  case busyDeadline =>
    exact due_dueOk_of_busy (s := { s with deadline := s.tval + s.cfg.tBusy }) (p := .busyWait) h hm trivial
  case busyWait =>
    unfold busyReceived
    split_ifs
    · exact afterBusy_dueOk h hm _
    · exact due_dueOk_of_busy (p := .busyCheck) h hm trivial
  case busyCheck =>
    split_ifs
    · exact afterBusy_dueOk h hm _
    · exact due_dueOk_of_busy (p := .busyWait) h hm trivial
  all_goals exact hp.elim

end Busy

/-! ### Every move leads to a legal primitive -/

section Rest
variable {s : State}

theorem moveOn_dueOk_of_start (hp : s.seq.point = .start) (hq : s.quiet) (hm : s.mbOpen = false)
    (hc : ∀ c, s.seq.stage = .csdParse c → c = []) : (moveOn s).dueOk := by
  simp only [moveOn, advance, hp]
  exact entry_dueOk hq hm hc

theorem moveOn_dueOk_of_start_present (hp : s.seq.point = .start ∨ s.seq.point = .present) (hq : s.quiet)
    (hm : s.mbOpen = false) (hc : ∀ c, s.seq.stage ≠ .csdParse c) (hi : s.seq.stage ≠ .initStart) :
    (moveOn s).dueOk := by
  rcases hp with hp | hp
  · exact moveOn_dueOk_of_start hp hq hm fun c h => absurd h (hc c)
  · simp only [moveOn, advance, hp]
    exact afterPresent_dueOk hq hm hi

theorem afterTeardown_dueOk (k : AfterTeardown) (hm : s.mbOpen = false) (hclk : s.clkFast = false)
    (hcs : s.cs = false) : (afterTeardown k s).dueOk := by
  cases k with
  | detect => exact ⟨⟨rfl, hcs, hclk, rfl, rfl, rfl, rfl⟩, hm⟩
  | complete e => exact finish_dueOk (s := clearSession s) e 0 ⟨hcs, hclk, rfl, rfl, rfl, rfl⟩ hm

theorem moveOn_dueOk_of_tearingDown {k : AfterTeardown} (hst : s.seq.stage = .tearingDown k) (hm : s.mbOpen = false)
    (hp : s.seq.point = .tdCs ∨ s.seq.point = .tdClk ∧ s.clkFast = false) (hcs : s.cs = false) : (moveOn s).dueOk := by
  rcases hp with hp | ⟨hp, hclk⟩
  · simp only [moveOn, advance, hp]
    refine ⟨?_, ?_⟩
    · simp only [State.positionOk, State.due_seq, hst]
      exact ⟨.inr ⟨trivial, trivial⟩, hcs⟩
    · rw [State.due_seq, hst]; exact hm
  · simp only [moveOn, advance, hp, hst]
    exact afterTeardown_dueOk k hm hclk hcs

/-- The dummy clocks and chip select come before any session (R183, R184). -/
theorem moveOn_dueOk_of_initStart (hst : s.seq.stage = .initStart) (hm : s.mbOpen = false)
    (hpos : s.positionOk) : (moveOn s).dueOk := by
  have hdummy {k : Nat} (hk : 1 ≤ k ∧ k ≤ 10) (h : s.deselected) : (s.due (.dummy k)).dueOk := by
    refine ⟨?_, ?_⟩
    · simp only [State.positionOk, State.due_seq, hst]
      exact ⟨hk.1, hk.2, h⟩
    · rw [State.due_seq, hst]; exact hm
  unfold State.positionOk at hpos
  rw [hst] at hpos
  cases hp : s.seq.point <;> rw [hp] at hpos
  case start => exact moveOn_dueOk_of_start hp hpos hm fun c h => by rw [hst] at h; cases h
  case present =>
    simp only [moveOn, advance, hp, afterPresent, hst, afterDetect]
    split_ifs
    · exact hdummy (by decide) hpos
    · exact beginTeardown_dueOk _ hm
  case dummy k =>
    simp only [moveOn, advance, hp, afterDummy]
    obtain ⟨hk1, -, hdes⟩ := hpos
    split_ifs with hk
    · exact hdummy ⟨by omega, hk⟩ hdes
    · obtain ⟨hl, -, hclk, -, -, -, hsc⟩ := hdes
      refine ⟨?_, ?_⟩
      · simp only [State.positionOk, State.due_seq, hst]
        exact ⟨hl, rfl, hclk, hsc⟩
      · rw [State.due_seq, hst]; exact hm
  case csAssert =>
    simp only [moveOn, advance, hp]
    exact sendCommand_dueOk (st := .initReset) (s := { s with attempt := 1 }) _ _ hpos hm
  all_goals exact hpos.elim

theorem moveOn_dueOk_of_crc (hst : s.seq.stage = .crc7 ∨ s.seq.stage = .crc16) (hm : s.mbOpen = false)
    (hpos : s.positionOk) : (moveOn s).dueOk := by
  have hpos : match s.seq.point with
      | .start => s.quiet
      | .pureGet a => a < s.latLen.toNat ∧ s.latLen.toNat ≤ s.cfg.hostbufSize ∧ s.quiet
      | _ => False := by
    unfold State.positionOk at hpos
    rcases hst with hst | hst <;> rw [hst] at hpos <;> exact hpos
  cases hp : s.seq.point <;> rw [hp] at hpos
  case start => exact moveOn_dueOk_of_start hp hpos hm fun c h => by rcases hst with hst | hst <;> rw [hst] at h <;> cases h
  case pureGet a =>
    obtain ⟨-, hlen, hq⟩ := hpos
    rcases hst with hst | hst <;> simp only [moveOn, advance, hp, afterPureGet, hst] <;> split_ifs with ha
    · exact pureGet_dueOk (s := { s with crc7r := crc7Byte s.crc7r s.mval }) hq hm (.inl hst) ha hlen
    · exact finish_dueOk (s := { s with crc7r := crc7Byte s.crc7r s.mval }) _ _ hq hm
    · exact pureGet_dueOk (s := { s with crc16r := crc16Byte s.crc16r s.mval }) hq hm (.inr hst) ha hlen
    · exact finish_dueOk (s := { s with crc16r := crc16Byte s.crc16r s.mval }) _ _ hq hm
  all_goals exact hpos.elim

theorem moveOn_dueOk_of_csdParse {c : List Byte} (hst : s.seq.stage = .csdParse c) (hm : s.mbOpen = false)
    (hpos : s.positionOk) : (moveOn s).dueOk := by
  unfold State.positionOk at hpos
  rw [hst] at hpos
  cases hp : s.seq.point <;> rw [hp] at hpos
  case start =>
    exact moveOn_dueOk_of_start hp hpos.2 hm fun c' h => by
      rw [hst] at h; cases h; exact hpos.1
  case pureGet a =>
    obtain ⟨rfl, -, hq⟩ := hpos
    simp only [moveOn, advance, hp, afterPureGet, hst]
    split_ifs with ha
    · exact ⟨⟨by rw [List.length_append]; rfl, ha, hq⟩, hm⟩
    · exact finish_dueOk _ _ hq hm
  all_goals exact hpos.elim

theorem moveOn_dueOk_of_writeBlocksStop (hst : s.seq.stage = .writeBlocksStop) (hm : s.mbOpen = true)
    (hp : s.seq.point = .tokTx 0xFD ∨ s.seq.point = .stopByte ∨ s.seq.point.inBusy) (h : s.sessionOpen) :
    (moveOn s).dueOk := by
  have hm' : s.mbOpen = s.seq.stage.multiOpen := by rw [hst]; exact hm
  have hfits : s.seq.stage.busyFits s := by rw [hst]; exact h
  rcases hp with hp | hp | hp
  · simp only [moveOn, advance, hp, afterTokenTx, hst]
    refine ⟨?_, ?_⟩
    · simp only [State.positionOk, State.due_seq, hst]
      exact ⟨.inr (.inl trivial), h⟩
    · rw [State.due_seq, hst]; exact hm
  · simp only [moveOn, advance, hp]
    exact due_dueOk_of_busy hfits hm' (p := .busyDeadline) trivial
  · exact moveOn_dueOk_of_busy hfits hm' hp

end Rest

/-- Every move of the sequencer from a legal position ends with a primitive that leads to a legal position. -/
theorem moveOn_dueOk {s : State} (hlegal : s.positionOk) (hm : s.mbOpen = s.seq.stage.multiOpen) :
    (moveOn s).dueOk := by
  have hpos := hlegal
  unfold State.positionOk at hpos
  cases hst : s.seq.stage <;> rw [hst] at hpos
  case idle => exact hpos.elim
  case reserved | isBlockAddressed | teardownOp =>
    rw [hst] at hm
    exact moveOn_dueOk_of_start hpos.1 hpos.2 hm fun c h => by rw [hst] at h; cases h
  case cardPresent | readBlock | writeBlock | readBlocks | writeBlocks | sectorCount =>
    rw [hst] at hm
    exact moveOn_dueOk_of_start_present hpos.1 hpos.2 hm (by simp [hst]) (by simp [hst])
  case tearingDown k =>
    rw [hst] at hm
    exact moveOn_dueOk_of_tearingDown hst hm hpos.1 hpos.2
  case initStart =>
    rw [hst] at hm
    exact moveOn_dueOk_of_initStart hst hm hlegal
  case initReset | initCrcen | initBlklen | readBlockCmd | writeBlockCmd | readBlocksCmd | preErasePrefix |
      preEraseCount | writeBlocksCmd | sectorCountCmd =>
    exact moveOn_dueOk_of_command (by rw [hst]; exact hpos.2) hm hpos.1
  case initVcheck | initOcr | initCap =>
    exact moveOn_dueOk_of_ext (by rw [hst]; exact hpos.2) hm (by rw [hst]; rfl) hpos.1
  case initApp =>
    rcases hpos with ⟨hp | hp, h⟩
    · simp only [moveOn, advance, hp]
      exact afterOpDeadline_dueOk (by rw [hm, hst]; rfl) h
    · exact moveOn_dueOk_of_command (by rw [hst]; exact h) hm hp
  case initOpCond =>
    rcases hpos with ⟨hp | hp, h⟩
    · simp only [moveOn, advance, hp]
      exact afterOpCheck_dueOk (by rw [hm, hst]; rfl) h
    · exact moveOn_dueOk_of_command (by rw [hst]; exact h) hm hp
  case readBlocksStop =>
    rcases hpos with ⟨hp | hp, h⟩
    · simp only [moveOn, advance, hp]
      exact due_dueOk_of_command (p := .poll 1) (by rw [hst]; exact h) hm ⟨Nat.le_refl 1, by decide⟩
    · exact moveOn_dueOk_of_command (by rw [hst]; exact h) hm hp
  case initReady =>
    obtain ⟨hp, -, hcs, hclk, -⟩ := hpos
    simp only [moveOn, advance, hp]
    exact finish_dueOk (s := { s with lifecycle := .ready }) .ok 0 ⟨hcs, hclk⟩ (by rw [hm, hst]; rfl)
  case readBlockData | readBlocksData | sectorCountData =>
    refine moveOn_dueOk_of_read (by rw [hst]; exact hpos.2) hm ?_
    simp only [State.frameSize, hst, ne_eq, not_true_eq_false, reduceCtorEq, not_false_eq_true]
    exact hpos.1
  case writeBlockData | writeBlocksData =>
    refine moveOn_dueOk_of_write (by rw [hst]; exact hpos.2) hm ?_
    simp only [State.startToken, hst]
    exact hpos.1
  case writeBlockBusy | readBlocksBusy | writeBlocksBusy =>
    exact moveOn_dueOk_of_busy (by rw [hst]; exact hpos.2) hm hpos.1
  case writeBlocksStop => exact moveOn_dueOk_of_writeBlocksStop hst (by rw [hm, hst]; rfl) hpos.1 hpos.2
  case crc7 => exact moveOn_dueOk_of_crc (.inl hst) (by rw [hm, hst]; rfl) hlegal
  case crc16 => exact moveOn_dueOk_of_crc (.inr hst) (by rw [hm, hst]; rfl) hlegal
  case csdParse c => exact moveOn_dueOk_of_csdParse hst (by rw [hm, hst]; rfl) hlegal

/-! ### The due primitive restores the invariant -/

/-- Where the primitive neither sets an output nor completes, the position is legal already. -/
theorem State.dueOk.legal {u : State} (h : u.dueOk)
    (hp : u.seq.point.exchanges = true ∨ u.seq.point.samplesTime = true ∨ u.seq.point = .present ∨
      u.seq.point = .dataGet ∨ u.seq.point = .dataPut ∨ ∃ a, u.seq.point = .pureGet a) :
    u.positionOk ∧ u.mbOpen = u.seq.stage.multiOpen := by
  unfold State.dueOk at h
  split at h
  case h_7 => exact h
  all_goals
    have hpt := ‹u.seq.point = _›
    simp [hpt, Point.exchanges, Point.samplesTime] at hp

/-- The invariant of a busy state at rest. -/
theorem State.Inv.of_busy {t : State} (hcfg : t.cfg.wf = true)
    (hmem : t.hostbuf.wf = true ∧ t.hostbuf.below t.cfg.hostbufSize = true)
    (hcache : t.scValid = false → t.scValue = 0) (hb : t.busy = true) (hd : t.seq.done = true)
    (hp : t.positionOk ∧ t.mbOpen = t.seq.stage.multiOpen) : t.Inv where
  config := hcfg
  memory := hmem
  cache := hcache
  idle := fun h => absurd (h.symm.trans hb) Bool.false_ne_true
  position := fun _ => ⟨hd, hp.1⟩
  multiBlock := hp.2

theorem Performed.inv {u t : State} (h : Performed u t) (hcfg : u.cfg.wf = true)
    (hmem : u.hostbuf.wf = true ∧ u.hostbuf.below u.cfg.hostbufSize = true)
    (hcache : u.scValid = false → u.scValue = 0) (hb : u.busy = true) (hdue : u.dueOk) : t.Inv := by
  cases h with
  | exchanged o hp => exact .of_busy hcfg hmem hcache hb rfl (hdue.legal (.inl hp))
  | timeSampled hp =>
    have hlegal := hdue.legal (.inr (.inl hp))
    unfold sampleNow
    split
    · exact .of_busy hcfg hmem hcache hb rfl hlegal
    · exact .of_busy hcfg hmem hcache hb rfl hlegal
  | presenceSampled hp => exact .of_busy hcfg hmem hcache hb rfl (hdue.legal (.inr (.inr (.inl hp))))
  | chipSelectSet v hp =>
    cases v <;> simp only [State.dueOk, hp] at hdue <;> exact .of_busy hcfg hmem hcache hb rfl hdue
  | clockSet v hp =>
    cases v <;> simp only [State.dueOk, hp] at hdue <;> exact .of_busy hcfg hmem hcache hb rfl hdue
  | byteRead a hp =>
    refine .of_busy hcfg hmem hcache hb rfl (hdue.legal (.inr (.inr (.inr ?_))))
    exact hp.imp id fun h => .inr ⟨a, h⟩
  | byteWritten hp ha =>
    exact .of_busy hcfg ⟨Mem.write_wf hmem.1 _ _, Mem.write_below _ hmem.2 ha⟩ hcache hb rfl
      (hdue.legal (.inr (.inr (.inr (.inr (.inl hp))))))
  | completed e v hp =>
    simp only [State.dueOk, hp] at hdue
    exact {
      config := hcfg
      memory := hmem
      cache := hcache
      idle := fun _ => ⟨rfl, hdue.1⟩
      position := fun (hbusy : false = true) => absurd hbusy Bool.false_ne_true
      multiBlock := hdue.2 }

end Sys2Proof.Machine
end

section
/-! PROOFS. What changes the session, the cache and `MB_OPEN`; with it the rest of the invariant (O47), and the statements on the
session (O51) and on the termination of a multi-block transfer (O57). -/

namespace Sys2Proof.Machine

/-! ### Fields a move keeps -/

section Fields
variable {α : Type} (φ : State → α) {s : State}

/-- A field that the running procedure does not forget, and that is no working register, is kept by the move. -/
theorem moveOn_field (hwork : ∀ x : State, φ x.eraseWork = φ x) (hclk : ∀ x, φ (clearLifecycle x) = φ x)
    (hst : ∀ x, φ (s.seq.stage.forget x) = φ x) : φ (moveOn s) = φ s := by
  have hforget : ∀ x, φ (s.seq.forget x) = φ x := by
    intro x
    by_cases h : s.seq.point = .clkFast
    · simp only [Seq.forget, h, hclk]
    · rw [Seq.forget_of_ne h, hst]
  have h := congrArg φ (moveOn_moves s).frame
  rwa [hforget, hforget, hwork, hwork] at h

end Fields

section Kept
variable {s : State} (htd : ∀ k, s.seq.stage ≠ .tearingDown k)
include htd

theorem moveOn_lifecycle (hp : s.seq.point ≠ .clkFast) (hr : s.seq.stage ≠ .initReset) :
    (moveOn s).lifecycle = s.lifecycle := by
  have h := congrArg State.lifecycle (moveOn_moves s).frame
  rw [Seq.forget_of_ne hp] at h
  cases hst : s.seq.stage <;> rw [hst] at h
  case tearingDown k => exact absurd hst (htd k)
  case initReset => exact absurd hst hr
  all_goals exact h

theorem moveOn_blockAddr (hc : s.seq.stage ≠ .initCap) : (moveOn s).blockAddr = s.blockAddr := by
  refine moveOn_field State.blockAddr (fun _ => rfl) (fun _ => rfl) fun x => ?_
  cases hst : s.seq.stage
  case tearingDown k => exact absurd hst (htd k)
  case initCap => exact absurd hst hc
  all_goals rfl

theorem moveOn_crcOn (hv : s.seq.stage ≠ .initVcheck) (hc : s.seq.stage ≠ .initCrcen) :
    (moveOn s).crcOn = s.crcOn := by
  refine moveOn_field State.crcOn (fun _ => rfl) (fun _ => rfl) fun x => ?_
  cases hst : s.seq.stage
  case tearingDown k => exact absurd hst (htd k)
  case initVcheck => exact absurd hst hv
  case initCrcen => exact absurd hst hc
  all_goals rfl

theorem moveOn_legacy (hv : s.seq.stage ≠ .initVcheck) : (moveOn s).legacy = s.legacy := by
  refine moveOn_field State.legacy (fun _ => rfl) (fun _ => rfl) fun x => ?_
  cases hst : s.seq.stage
  case tearingDown k => exact absurd hst (htd k)
  case initVcheck => exact absurd hst hv
  all_goals rfl

/-- The cache: the validity and the value together. -/
theorem moveOn_cache (hc : s.seq.stage ≠ .sectorCountData) :
    (moveOn s).scValid = s.scValid ∧ (moveOn s).scValue = s.scValue := by
  refine Prod.mk.inj (moveOn_field (fun x => (x.scValid, x.scValue)) (fun _ => rfl) (fun _ => rfl) fun x => ?_)
  cases hst : s.seq.stage
  case tearingDown k => exact absurd hst (htd k)
  case sectorCountData => exact absurd hst hc
  all_goals rfl

end Kept

theorem moveOn_mbOpen {s : State} (h : s.seq.stage.opensOrCloses = false) : (moveOn s).mbOpen = s.mbOpen := by
  refine moveOn_field State.mbOpen (fun _ => rfl) (fun _ => rfl) fun x => ?_
  cases hst : s.seq.stage <;> rw [hst] at h
  case readBlocks | readBlocksCmd | readBlocksBusy | writeBlocks | preErasePrefix | preEraseCount | writeBlocksCmd |
      writeBlocksStop => cases h
  all_goals rfl

/-! ### Teardown -/

theorem moveOn_of_tearingDown {s : State} {k : AfterTeardown} (hd : s.seq.done = true) (hpos : s.positionOk)
    (hst : s.seq.stage = .tearingDown k) : moveOn s = s.due .tdClk ∨ s.tornDown ∧ moveOn s = afterTeardown k s := by
  unfold State.positionOk at hpos
  rw [hst] at hpos
  rcases hpos with ⟨hp | ⟨hp, -⟩, -⟩
  · exact .inl (by simp only [moveOn, advance, hp])
  · exact .inr ⟨⟨k, by rw [← hst, ← hp, ← hd]⟩, by simp only [moveOn, advance, hp, hst]⟩

/-- At the end of Teardown its register writes (R200): the session and the cache are cleared. -/
theorem tearingDown_cases {s : State} (hd : s.seq.done = true) (hpos : s.positionOk) :
    (∀ k, s.seq.stage ≠ .tearingDown k) ∨ moveOn s = s.due .tdClk ∨
      s.tornDown ∧ (moveOn s).lifecycle = .uninit ∧ (moveOn s).blockAddr = false ∧ (moveOn s).crcOn = false ∧
        (moveOn s).legacy = false ∧ (moveOn s).scValid = false ∧ (moveOn s).scValue = 0 := by
  by_cases htd : ∃ k, s.seq.stage = .tearingDown k
  · obtain ⟨k, hst⟩ := htd
    rcases moveOn_of_tearingDown hd hpos hst with hmv | ⟨htorn, hmv⟩
    · exact .inr (.inl hmv)
    · rw [hmv]
      cases k <;> exact .inr (.inr ⟨htorn, rfl, rfl, rfl, rfl, rfl, rfl⟩)
  · exact .inl fun k hk => htd ⟨k, hk⟩

/-! ### The cache -/

/-- SECTOR_COUNT is about to complete with the value it has put into the cache (R268). -/
def State.cacheFilled (u : State) : Prop := u.scValid = true ∧ u.seq.point = .finish .ok u.scValue

theorem afterFrame_cache {s : State} (e : Err) (hst : s.seq.stage = .sectorCountData) :
    (afterFrame e s).scValid = s.scValid ∧ (afterFrame e s).scValue = s.scValue ∨ (afterFrame e s).cacheFilled := by
  simp only [afterFrame, hst, afterSectorCountData_eq]
  split_ifs
  · exact .inr ⟨rfl, rfl⟩
  · exact .inl ⟨rfl, rfl⟩
  · exact .inl ⟨rfl, rfl⟩

theorem moveOn_cache_of_sectorCountData {s : State} (hpos : s.positionOk) (hst : s.seq.stage = .sectorCountData) :
    (moveOn s).scValid = s.scValid ∧ (moveOn s).scValue = s.scValue ∨ (moveOn s).cacheFilled := by
  unfold State.positionOk at hpos
  rw [hst] at hpos
  obtain ⟨hpos, -⟩ := hpos
  cases hp : s.seq.point <;> rw [hp] at hpos <;> simp only [moveOn, advance, hp]
  case tokDeadline => exact .inl ⟨rfl, rfl⟩
  case tokWait =>
    unfold tokenReceived
    split_ifs
    · exact .inl ⟨rfl, rfl⟩
    · exact .inl ⟨rfl, rfl⟩
    · exact afterFrame_cache _ hst
    · exact afterFrame_cache _ hst
  case tokCheck =>
    split_ifs
    · exact afterFrame_cache _ hst
    · exact .inl ⟨rfl, rfl⟩
  case dataRx =>
    simp only [afterPayloadRx, hst, nextPayload]
    split_ifs
    · exact .inl ⟨rfl, rfl⟩
    · exact .inl ⟨rfl, rfl⟩
  case crcHi => exact .inl ⟨rfl, rfl⟩
  case crcLo hi =>
    unfold afterCrcRx
    split_ifs
    · exact afterFrame_cache _ hst
    · exact afterFrame_cache _ hst
  case dataPut => exact hpos.2.elim
  all_goals exact hpos.elim

/-- From a legal position a move leaves the cache, clears it at the end of Teardown, or fills it at the end of SECTOR_COUNT. -/
theorem moveOn_cache_cases {s : State} (hd : s.seq.done = true) (hpos : s.positionOk) :
    (moveOn s).scValid = s.scValid ∧ (moveOn s).scValue = s.scValue ∨
      s.tornDown ∧ (moveOn s).scValid = false ∧ (moveOn s).scValue = 0 ∨
        s.seq.stage = .sectorCountData ∧ (moveOn s).cacheFilled := by
  rcases tearingDown_cases hd hpos with htd | hmv | ⟨htorn, -, -, -, -, hcache⟩
  case inr.inl => exact .inl (by rw [hmv]; exact ⟨rfl, rfl⟩)
  case inr.inr => exact .inr (.inl ⟨htorn, hcache⟩)
  by_cases hst : s.seq.stage = .sectorCountData
  · rcases moveOn_cache_of_sectorCountData hpos hst with h | h
    · exact .inl h
    · exact .inr (.inr ⟨hst, h⟩)
  · exact .inl (moveOn_cache htd hst)

/-- A move keeps an invalid cache at 0 (R36). -/
theorem moveOn_cache_zero {s : State} (hd : s.seq.done = true) (hpos : s.positionOk)
    (hcache : s.scValid = false → s.scValue = 0) : (moveOn s).scValid = false → (moveOn s).scValue = 0 := by
  rcases moveOn_cache_cases hd hpos with ⟨hv, hn⟩ | ⟨-, -, hn⟩ | ⟨-, hv, -⟩
  · rwa [hv, hn]
  · exact fun _ => hn
  · exact fun h => absurd (h.symm.trans hv) Bool.false_ne_true

/-! ### The invariant -/

/-- The controller's step keeps the invariant. -/
theorem turn_inv {s t : State} (hi : s.Inv) (h : turn s = .next t) : t.Inv := by
  cases hb : s.busy with
  | false =>
    cases (turn_idle hb).symm.trans h
    exact hi
  | true =>
    obtain ⟨hd, hpos⟩ := hi.position hb
    rcases performed_of_turn hb h with ⟨hd', -⟩ | ⟨-, hp⟩
    · exact absurd (hd'.symm.trans hd) Bool.false_ne_true
    · have hcfg : (moveOn s).cfg = s.cfg := moveOn_outside_field State.cfg (fun _ => rfl) s
      have hbuf : (moveOn s).hostbuf = s.hostbuf := moveOn_outside_field State.hostbuf (fun _ => rfl) s
      have hbusy : (moveOn s).busy = s.busy := moveOn_outside_field State.busy (fun _ => rfl) s
      exact hp.inv (by rw [hcfg]; exact hi.config) (by rw [hcfg, hbuf]; exact hi.memory)
        (moveOn_cache_zero hd hpos hi.cache) (hbusy.trans hb) (moveOn_dueOk hpos hi.multiBlock)

/-! ### Host and environment events -/

/-- The host operations with their opcodes and entry stages (R82). -/
def hostOperations : List (Instr × BitVec 8 × Stage) :=
  [(.cardPresent, 0x01, .cardPresent), (.initCard, 0x02, .initStart), (.isBlockAddressed, 0x03, .isBlockAddressed),
    (.readBlock, 0x04, .readBlock), (.writeBlock, 0x05, .writeBlock), (.readBlocks, 0x06, .readBlocks),
    (.writeBlocks, 0x07, .writeBlocks), (.sectorCount, 0x08, .sectorCount), (.teardown, 0x09, .teardownOp),
    (.crc7, 0x0A, .crc7), (.crc16, 0x0B, .crc16), (.csdParse, 0x0C, .csdParse [])]

/-- The stage a `CTRL` write starts, by its opcode (R82, R83). -/
def startStage (op : BitVec 8) : Stage :=
  ([.reserved, .cardPresent, .initStart, .isBlockAddressed, .readBlock, .writeBlock, .readBlocks, .writeBlocks,
    .sectorCount, .teardownOp, .crc7, .crc16, .csdParse []] : List Stage).getD op.toNat .reserved

theorem exec_of_hostOperation {i : Instr} {op : BitVec 8} {st : Stage} (h : (i, op, st) ∈ hostOperations) (s : State) :
    exec i s = .next (start op st s) := by
  simp only [hostOperations, List.mem_cons, Prod.mk.injEq, List.not_mem_nil, or_false] at h
  rcases h with ⟨rfl, rfl, rfl⟩ | ⟨rfl, rfl, rfl⟩ | ⟨rfl, rfl, rfl⟩ | ⟨rfl, rfl, rfl⟩ | ⟨rfl, rfl, rfl⟩ | ⟨rfl, rfl, rfl⟩ |
    ⟨rfl, rfl, rfl⟩ | ⟨rfl, rfl, rfl⟩ | ⟨rfl, rfl, rfl⟩ | ⟨rfl, rfl, rfl⟩ | ⟨rfl, rfl, rfl⟩ | ⟨rfl, rfl, rfl⟩ <;> rfl

theorem decodeHost_ok (op : BitVec 8) (i : Instr) :
    decodeHost (op.setWidth 32) = .ok i → (i, op, startStage op) ∈ hostOperations := by
  have h : ∀ op : BitVec 8, ∀ i ∈ (decodeHost (op.setWidth 32)).toOption, (i, op, startStage op) ∈ hostOperations := by
    decide
  exact fun hok => h op i (by rw [hok]; rfl)

theorem startStage_of_error (op : BitVec 8) (e : DecodeError) :
    decodeHost (op.setWidth 32) = .error e → startStage op = .reserved := by
  have h : ∀ op : BitVec 8, (decodeHost (op.setWidth 32)).toOption = none → startStage op = .reserved := by decide
  exact fun herr => h op (by rw [herr]; rfl)

theorem startStage_mem (op : BitVec 8) : startStage op = .reserved ∨ startStage op ∈ hostOperations.map (·.2.2) := by
  revert op; decide
/-- Bits [31:8] of a `CTRL` word are ignored (R81). -/
theorem decodeHost_low (v : Word) : decodeHost v = decodeHost ((v.extractLsb' 0 8).setWidth 32) := by
  have hlow : ((v.extractLsb' 0 8).setWidth 32).extractLsb' 0 8 = v.extractLsb' 0 8 :=
    BitVec.eq_of_getLsbD_eq fun i hi => by
      simp [hi, show i < 32 by omega]
  unfold decodeHost
  rw [hlow]

/-- A `CTRL` write starts the operation its bits [7:0] name, a reserved one included (R22, R81-R83). -/
theorem hostWrite_ctrl (v : Word) (s : State) :
    hostWrite 0 v s = .next (start (v.extractLsb' 0 8) (startStage (v.extractLsb' 0 8)) s) := by
  simp only [hostWrite, if_true, decode, decodeHost_low v]
  cases h : decodeHost ((v.extractLsb' 0 8).setWidth 32) with
  | ok i => exact exec_of_hostOperation (decodeHost_ok _ i h) s
  | error e =>
    rw [startStage_of_error _ e h]
    rfl

/-- What an event of the host or the environment other than the reset answers (R21-R31, R61, R124). -/
inductive Event (s : State) : State → Prop
  | started (r : List Input) (op : BitVec 8) : Event s (start op (startStage op) { s with inputs := r })
  | requested (r : List Input) (a b : Word) (c : BitVec 16) :
    Event s { s with inputs := r, sector := a, count := b, len := c }
  | returned (r : List Input) (w : Word) : Event s { s with inputs := r, rdata := w }
  | stored (r : List Input) (a : Nat) (b : Byte) (ha : a < s.cfg.hostbufSize) :
    Event s { s with inputs := r, hostbuf := s.hostbuf.write a b }
  | cardDetected (r : List Input) (p : Bool) : Event s { s with inputs := r, cd := p }

theorem event_of_hostWriteReg {s : State} (r : List Input) (off : Nat) (v : Word) :
    Event s (hostWriteReg off v { s with inputs := r }) := by
  unfold hostWriteReg
  split_ifs
  · exact .requested r v s.count s.len
  · exact .requested r s.sector v s.len
  · exact .requested r s.sector s.count (v.setWidth 16)
  · exact .requested r s.sector s.count s.len

/-- A step is the controller's, the block's reset, or another event of the host or the environment. -/
theorem step_cases {s t : State} (h : step s = .next t) :
    (∃ r, turn { s with inputs := r } = .next t) ∨
      (∃ r, s.inputs = .reset :: r ∧ t = hwReset { s with inputs := r }) ∨ Event s t := by
  unfold step at h
  split at h
  case h_1 => exact .inl ⟨s.inputs, h⟩
  case h_2 r _ => exact .inl ⟨r, h⟩
  case h_3 r _ =>
    split_ifs at h
    · exact .inl ⟨s.inputs, h⟩
    · cases h; exact .inr (.inr (.requested r s.sector s.count s.len))
  case h_4 off v r _ =>
    by_cases hoff : off = 0
    · subst hoff
      rw [hostWrite_ctrl] at h
      cases h; exact .inr (.inr (.started r _))
    · simp only [hostWrite, if_neg hoff] at h
      cases h; exact .inr (.inr (event_of_hostWriteReg r off v))
  case h_5 r _ => cases h; exact .inr (.inr (.returned r _))
  case h_6 => cases h
  case h_7 a b r _ =>
    unfold hostBufWrite at h
    split_ifs at h with ha
    cases h; exact .inr (.inr (.stored r a b ha))
  case h_8 a r _ =>
    unfold hostBufRead at h
    split_ifs at h
    cases h; exact .inr (.inr (.returned r _))
  case h_9 p r _ => cases h; exact .inr (.inr (.cardDetected r p))
  case h_10 r hin => cases h; exact .inr (.inl ⟨r, hin, rfl⟩)

theorem State.Inv.withInputs {s : State} (hi : s.Inv) (r : List Input) : State.Inv { s with inputs := r } :=
  ⟨hi.config, hi.memory, hi.cache, hi.idle, hi.position, hi.multiBlock⟩

/-- Every operation starts in a legal position from a quiet block (R22). -/
theorem startStage_positionOk {s : State} (op : BitVec 8) (hseq : s.seq = ⟨startStage op, .start, true⟩)
    (hq : s.quiet) : s.positionOk := by
  have hmem := startStage_mem op
  simp only [hostOperations, List.map_cons, List.map_nil, List.mem_cons, List.not_mem_nil, or_false] at hmem
  unfold State.positionOk
  rw [hseq]
  rcases hmem with h | h | h | h | h | h | h | h | h | h | h | h | h <;> rw [h]
  case inl => exact ⟨rfl, hq⟩
  · exact ⟨.inl rfl, hq⟩
  · exact hq
  · exact ⟨rfl, hq⟩
  · exact ⟨.inl rfl, hq⟩
  · exact ⟨.inl rfl, hq⟩
  · exact ⟨.inl rfl, hq⟩
  · exact ⟨.inl rfl, hq⟩
  · exact ⟨.inl rfl, hq⟩
  · exact ⟨rfl, hq⟩
  · exact hq
  · exact hq
  · exact ⟨rfl, hq⟩

theorem startStage_not_multiOpen (op : BitVec 8) : (startStage op).multiOpen = false := by
  revert op; decide

theorem start_inv {s : State} (hi : s.Inv) (op : BitVec 8) : (start op (startStage op) s).Inv := by
  cases hb : s.busy with
  | true => rwa [start_busy op _ hb]
  | false =>
    obtain ⟨hseq, hq⟩ := hi.idle hb
    rw [start_idle op _ hb]
    refine .of_busy hi.config hi.memory hi.cache rfl rfl ⟨startStage_positionOk op rfl hq, ?_⟩
    have hm : s.mbOpen = false := by rw [hi.multiBlock, hseq]; rfl
    rw [startStage_not_multiOpen]
    exact hm

theorem hwReset_inv {s : State} (hi : s.Inv) : (hwReset s).Inv where
  config := hi.config
  memory := hi.memory
  cache := fun _ => rfl
  idle := fun _ => ⟨rfl, State.resetWith_quiet s.cfg⟩
  position := fun (hbusy : false = true) => absurd hbusy Bool.false_ne_true
  multiBlock := rfl

theorem Event.inv {s t : State} (h : Event s t) (hi : s.Inv) : t.Inv := by
  cases h with
  | started r op => exact start_inv (hi.withInputs r) op
  | stored r a b ha =>
    exact ⟨hi.config, ⟨Mem.write_wf hi.memory.1 a b, Mem.write_below b hi.memory.2 ha⟩, hi.cache, hi.idle, hi.position,
      hi.multiBlock⟩
  | _ => exact ⟨hi.config, hi.memory, hi.cache, hi.idle, hi.position, hi.multiBlock⟩

/-- Settles O47: a step is the controller's (`turn_inv`), the reset, or a host or environment event, and each keeps the
invariant. -/
theorem invariantKept : Obligations.InvariantKept := by
  intro s t hi h
  rcases step_cases h with ⟨r, hturn⟩ | ⟨r, -, rfl⟩ | hev
  · exact turn_inv (hi.withInputs r) hturn
  · exact hwReset_inv (hi.withInputs r)
  · exact hev.inv hi

end Sys2Proof.Machine
end

section
/-! PROOFS. Who changes the session (O51), and when `MB_OPEN` rises and falls (O57). -/

namespace Sys2Proof.Machine

/-! ### The moves of a command -/

/-- A command's move stays in the command, or hands the response to its caller: a one-byte response is the byte of the last
poll (R151, R154). -/
theorem moveOn_command_cases {s : State} (hp : s.seq.point.inExtCommand) :
    (∃ p r, moveOn s = State.due p { s with resp := r }) ∨
      ∃ r x, moveOn s = afterCommand { s with resp := r, respx := x } ∧ (s.seq.stage.extended = false → r = s.rx) := by
  have hreturns (r : Byte) (hr : r = s.rx) :
      (∃ p r', pollReturns r s = State.due p { s with resp := r' }) ∨
        ∃ r' x, pollReturns r s = afterCommand { s with resp := r', respx := x } ∧
          (s.seq.stage.extended = false → r' = s.rx) := by
    unfold pollReturns
    split_ifs
    · exact .inl ⟨_, r, rfl⟩
    · exact .inr ⟨r, s.respx, rfl, fun _ => hr⟩
  cases hpt : s.seq.point <;> rw [hpt] at hp
  case cmdTx k =>
    simp only [moveOn, advance, hpt, afterPacketByte]
    split_ifs
    · exact .inl ⟨_, s.resp, rfl⟩
    · exact .inl ⟨_, s.resp, rfl⟩
    · exact .inl ⟨_, s.resp, rfl⟩
  case poll k =>
    simp only [moveOn, hpt, statusReceived, pollAgain]
    split_ifs
    · exact hreturns s.rx rfl
    · exact .inl ⟨_, s.resp, rfl⟩
    · exact hreturns s.rx rfl
  case ext k x =>
    simp only [moveOn, advance, hpt, extEnds]
    split_ifs with he
    · exact .inr ⟨s.resp, _, rfl, fun hne => absurd (he.2.symm.trans hne) (by decide)⟩
    · exact .inl ⟨_, s.resp, rfl⟩
    · exact .inl ⟨_, s.resp, rfl⟩
  all_goals exact hp.elim

/-! ### What a primitive keeps -/

/-- The session and `MB_OPEN` are registers no primitive writes. -/
theorem Performed.session {u t : State} (h : Performed u t) :
    t.lifecycle = u.lifecycle ∧ t.blockAddr = u.blockAddr ∧ t.crcOn = u.crcOn ∧ t.legacy = u.legacy ∧
      t.scValid = u.scValid ∧ t.scValue = u.scValue := by
  cases h with
  | timeSampled => simp
  | _ => exact ⟨rfl, rfl, rfl, rfl, rfl, rfl⟩

theorem Performed.mbOpen {u t : State} (h : Performed u t) : t.mbOpen = u.mbOpen := by
  cases h with
  | timeSampled => exact sampleNow_mbOpen u
  | _ => rfl

/-- A due completion is performed by `complete` (R282). -/
theorem Performed.of_finish {u t : State} {e : Err} {v : Word} (h : Performed u t) (hp : u.seq.point = .finish e v) :
    t = complete e v u := by
  cases h with
  | completed e' v' hp' => cases hp.symm.trans hp'; rfl
  | exchanged _ hp' => rw [hp] at hp'; cases hp'
  | timeSampled hp' => rw [hp] at hp'; cases hp'
  | presenceSampled hp' => cases hp.symm.trans hp'
  | chipSelectSet v' hp' => cases v' <;> cases hp.symm.trans hp'
  | clockSet v' hp' => cases v' <;> cases hp.symm.trans hp'
  | byteRead _ hp' => rcases hp' with hp' | hp' <;> cases hp.symm.trans hp'
  | byteWritten hp' => cases hp.symm.trans hp'

/-- A due exchange is performed by `xchg` (R120). -/
theorem Performed.of_exchanges {u t : State} (h : Performed u t) (hp : u.seq.point.exchanges = true) :
    ∃ o, t = xchg o u := by
  cases h with
  | exchanged o => exact ⟨o, rfl⟩
  | completed _ _ hp' => rw [hp'] at hp; cases hp
  | timeSampled hp' => cases hpt : u.seq.point <;> rw [hpt] at hp hp' <;> cases hp <;> cases hp'
  | presenceSampled hp' => rw [hp'] at hp; cases hp
  | chipSelectSet v' hp' => cases v' <;> rw [hp'] at hp <;> cases hp
  | clockSet v' hp' => cases v' <;> rw [hp'] at hp <;> cases hp
  | byteRead _ hp' => rcases hp' with hp' | hp' <;> rw [hp'] at hp <;> cases hp
  | byteWritten hp' => rw [hp'] at hp; cases hp

/-! ### The session -/

/-- The clock becomes fast only in the Ready step (R193). -/
theorem stage_of_clkFast {s : State} (hpos : s.positionOk) (hp : s.seq.point = .clkFast) : s.seq.stage = .initReady := by
  unfold State.positionOk at hpos
  rw [hp] at hpos
  cases hst : s.seq.stage <;> rw [hst] at hpos
  all_goals simp [Point.inCommand, Point.inExtCommand, Point.inRead, Point.inWrite, Point.inBusy] at hpos

theorem afterReset_lifecycle (s : State) :
    (afterReset s).lifecycle = s.lifecycle ∨ s.resp = 0x01 ∧ (afterReset s).lifecycle = .idle := by
  unfold afterReset
  split_ifs with hr
  · exact .inr ⟨hr, rfl⟩
  · exact .inl rfl
  · exact .inl rfl

theorem afterVcheck_crcOn (s : State) : (afterVcheck s).crcOn = s.crcOn ∨ (afterVcheck s).crcOn = false := by
  unfold afterVcheck beginCrcEnable
  split
  · exact .inl rfl
  · split_ifs
    · exact .inl rfl
    · exact .inr rfl

section Session
variable {s : State} (hd : s.seq.done = true) (hpos : s.positionOk)
include hd hpos

theorem moveOn_lifecycle_cases :
    (moveOn s).lifecycle = s.lifecycle ∨ s.tornDown ∧ (moveOn s).lifecycle = .uninit ∨
      s.seq.stage = .initReset ∧ s.rx = 0x01 ∧ (moveOn s).lifecycle = .idle ∨
        s.seq.stage = .initReady ∧ (moveOn s).lifecycle = .ready := by
  rcases tearingDown_cases hd hpos with htd | hmv | ⟨htorn, h, -⟩
  case inr.inl => exact .inl (by rw [hmv]; rfl)
  case inr.inr => exact .inr (.inl ⟨htorn, h⟩)
  by_cases hclk : s.seq.point = .clkFast
  · have hmv : moveOn s = afterReady s := by simp only [moveOn, advance, hclk]
    exact .inr (.inr (.inr ⟨stage_of_clkFast hpos hclk, by rw [hmv]; rfl⟩))
  by_cases hst : s.seq.stage = .initReset
  · have hp : s.seq.point.inCommand := by
      unfold State.positionOk at hpos
      rw [hst] at hpos
      exact hpos.1
    rcases moveOn_command_cases hp.inExtCommand with ⟨p, r, hmv⟩ | ⟨r, x, hmv, hr⟩ <;> rw [hmv]
    · exact .inl rfl
    · have hcmd : afterCommand { s with resp := r, respx := x } = afterReset { s with resp := r, respx := x } := by
        simp only [afterCommand, hst]
      rw [hcmd]
      rcases afterReset_lifecycle { s with resp := r, respx := x } with h | ⟨h1, h⟩
      · exact .inl h
      · exact .inr (.inr (.inl ⟨hst, (hr (by rw [hst]; rfl)).symm.trans h1, h⟩))
  · exact .inl (moveOn_lifecycle htd hclk hst)

theorem moveOn_blockAddr_cases :
    (moveOn s).blockAddr = s.blockAddr ∨ s.tornDown ∧ (moveOn s).blockAddr = false ∨ s.seq.stage = .initCap := by
  rcases tearingDown_cases hd hpos with htd | hmv | ⟨htorn, -, h, -⟩
  case inr.inl => exact .inl (by rw [hmv]; rfl)
  case inr.inr => exact .inr (.inl ⟨htorn, h⟩)
  by_cases hst : s.seq.stage = .initCap
  · exact .inr (.inr hst)
  · exact .inl (moveOn_blockAddr htd hst)

theorem moveOn_crcOn_cases :
    (moveOn s).crcOn = s.crcOn ∨ s.tornDown ∧ (moveOn s).crcOn = false ∨ s.seq.stage = .initCrcen ∨
      s.seq.stage = .initVcheck ∧ (moveOn s).crcOn = false := by
  rcases tearingDown_cases hd hpos with htd | hmv | ⟨htorn, -, -, h, -⟩
  case inr.inl => exact .inl (by rw [hmv]; rfl)
  case inr.inr => exact .inr (.inl ⟨htorn, h⟩)
  by_cases hc : s.seq.stage = .initCrcen
  · exact .inr (.inr (.inl hc))
  by_cases hst : s.seq.stage = .initVcheck
  · have hp : s.seq.point.inExtCommand := by
      unfold State.positionOk at hpos
      rw [hst] at hpos
      exact hpos.1
    rcases moveOn_command_cases hp with ⟨p, r, hmv⟩ | ⟨r, x, hmv, -⟩ <;> rw [hmv]
    · exact .inl rfl
    · have hcmd : afterCommand { s with resp := r, respx := x } = afterVcheck { s with resp := r, respx := x } := by
        simp only [afterCommand, hst]
      rw [hcmd]
      rcases afterVcheck_crcOn { s with resp := r, respx := x } with h | h
      · exact .inl h
      · exact .inr (.inr (.inr ⟨hst, h⟩))
  · exact .inl (moveOn_crcOn htd hst hc)

theorem moveOn_legacy_cases :
    (moveOn s).legacy = s.legacy ∨ s.tornDown ∧ (moveOn s).legacy = false ∨ s.seq.stage = .initVcheck := by
  rcases tearingDown_cases hd hpos with htd | hmv | ⟨htorn, -, -, -, h, -⟩
  case inr.inl => exact .inl (by rw [hmv]; rfl)
  case inr.inr => exact .inr (.inl ⟨htorn, h⟩)
  by_cases hst : s.seq.stage = .initVcheck
  · exact .inr (.inr hst)
  · exact .inl (moveOn_legacy htd hst)

end Session

/-- A host or environment event other than the reset leaves the session (R32-R36). -/
theorem Event.session {s t : State} (h : Event s t) :
    t.lifecycle = s.lifecycle ∧ t.blockAddr = s.blockAddr ∧ t.crcOn = s.crcOn ∧ t.legacy = s.legacy ∧
      t.scValid = s.scValid ∧ t.scValue = s.scValue := by
  cases h with
  | started r op => unfold start; split <;> exact ⟨rfl, rfl, rfl, rfl, rfl, rfl⟩
  | _ => exact ⟨rfl, rfl, rfl, rfl, rfl, rfl⟩

/-- The changes of the session in a controller's step: the statement of O51 for `turn`. -/
theorem turn_session {s t : State} (hi : s.Inv) (h : turn s = .next t) :
    (t.lifecycle ≠ s.lifecycle →
      s.tornDown ∧ t.lifecycle = .uninit ∨ s.seq.stage = .initReset ∧ s.rx = 0x01 ∧ t.lifecycle = .idle ∨
        s.seq.stage = .initReady ∧ t.lifecycle = .ready) ∧
    (t.blockAddr ≠ s.blockAddr → s.tornDown ∧ t.blockAddr = false ∨ s.seq.stage = .initCap) ∧
    (t.crcOn ≠ s.crcOn →
      s.tornDown ∧ t.crcOn = false ∨ s.seq.stage = .initCrcen ∨ s.seq.stage = .initVcheck ∧ t.crcOn = false) ∧
    (t.legacy ≠ s.legacy → s.tornDown ∧ t.legacy = false ∨ s.seq.stage = .initVcheck) ∧
    (t.scValid ≠ s.scValid ∨ t.scValue ≠ s.scValue →
      s.tornDown ∧ t.scValid = false ∧ t.scValue = 0 ∨
        s.seq.stage = .sectorCountData ∧ t.completed .ok t.scValue ∧ t.scValid = true) := by
  cases hb : s.busy with
  | false =>
    cases (turn_idle hb).symm.trans h
    exact ⟨fun hne => absurd rfl hne, fun hne => absurd rfl hne, fun hne => absurd rfl hne, fun hne => absurd rfl hne,
      fun hne => absurd rfl (hne.resolve_left fun h => h rfl)⟩
  | true =>
    obtain ⟨hd, hpos⟩ := hi.position hb
    obtain ⟨hd', -⟩ | ⟨-, hp⟩ := performed_of_turn hb h
    · exact absurd (hd'.symm.trans hd) Bool.false_ne_true
    obtain ⟨hlife, haddr, hcrc, hleg, hval, hnum⟩ := hp.session
    rw [hlife, haddr, hcrc, hleg, hval, hnum]
    refine ⟨(moveOn_lifecycle_cases hd hpos).resolve_left, (moveOn_blockAddr_cases hd hpos).resolve_left,
      (moveOn_crcOn_cases hd hpos).resolve_left, (moveOn_legacy_cases hd hpos).resolve_left, fun hne => ?_⟩
    rcases moveOn_cache_cases hd hpos with ⟨hv, hn⟩ | htorn | ⟨hst, hv, hfin⟩
    · exact absurd hne (by simp [hv, hn])
    · exact .inl htorn
    · refine .inr ⟨hst, ?_, hv⟩
      rw [hp.of_finish hfin]
      exact ⟨rfl, rfl, rfl, rfl⟩

/-- Settles O51: of the controller's steps only those of `turn_session` change the session; no other event but the reset does. -/
theorem sessionChanges : Obligations.SessionChanges := by
  intro s t hi hnr h
  rcases step_cases h with ⟨r, hturn⟩ | ⟨r, hin, -⟩ | hev
  · exact turn_session (s := { s with inputs := r }) (hi.withInputs r) hturn
  · exact absurd (by rw [hin]; rfl) hnr
  · obtain ⟨hlife, haddr, hcrc, hleg, hval, hnum⟩ := hev.session
    exact ⟨fun hne => absurd hlife hne, fun hne => absurd haddr hne, fun hne => absurd hcrc hne,
      fun hne => absurd hleg hne, fun hne => absurd hnum (hne.resolve_left fun hv => hv hval)⟩

end Sys2Proof.Machine
end

section
/-! PROOFS. When `MB_OPEN` rises and falls (O57): it is opened only by the move that makes the first byte of CMD18 or CMD25 due, and
closed only by the end of a termination's busy wait. -/

namespace Sys2Proof.Machine

/-! ### Opening a multi-block transfer -/

/-- The first byte of CMD18 or CMD25 is due. -/
def State.opening (u : State) : Prop :=
  ∃ st, (st = .readBlocksCmd ∨ st = .writeBlocksCmd) ∧ u.seq = ⟨st, .cmdTx 0, false⟩

theorem beginWriteMulti_opening (s : State) : (beginWriteMulti s).opening := ⟨.writeBlocksCmd, .inr rfl, rfl⟩

theorem beginReadBlocks_mbOpen (s : State) :
    (beginReadBlocks s).mbOpen = s.mbOpen ∨ (beginReadBlocks s).opening := by
  unfold beginReadBlocks
  split_ifs
  · exact .inl rfl
  · exact .inr ⟨.readBlocksCmd, .inl rfl, rfl⟩

theorem beginWriteBlocks_mbOpen (s : State) :
    (beginWriteBlocks s).mbOpen = s.mbOpen ∨ (beginWriteBlocks s).opening := by
  unfold beginWriteBlocks
  split_ifs
  · exact .inl rfl
  · exact .inl rfl
  · exact .inr (beginWriteMulti_opening s)

theorem afterPreErasePrefix_mbOpen (s : State) :
    (afterPreErasePrefix s).mbOpen = s.mbOpen ∨ (afterPreErasePrefix s).opening := by
  unfold afterPreErasePrefix
  split_ifs
  · exact .inl rfl
  · exact .inr (beginWriteMulti_opening s)

theorem preTransfer_mbOpen {s : State} {k : State → State} (hk : (k s).mbOpen = s.mbOpen ∨ (k s).opening) :
    (preTransfer k s).mbOpen = s.mbOpen ∨ (preTransfer k s).opening := by
  unfold preTransfer preSession
  dsimp only
  split_ifs
  · exact .inl rfl
  · exact .inl rfl
  · exact hk
  · exact .inl rfl

/-- Before the multi-block command a move leaves `MB_OPEN`, or makes the command's first byte due. -/
theorem moveOn_mbOpen_of_closed {s : State} (hpos : s.positionOk) (hst : s.seq.stage.multiOpen = false) :
    (moveOn s).mbOpen = s.mbOpen ∨ (moveOn s).opening := by
  by_cases ho : s.seq.stage.opensOrCloses = false
  · exact .inl (moveOn_mbOpen ho)
  unfold State.positionOk at hpos
  cases h : s.seq.stage <;> rw [h] at hpos hst ho
  case readBlocks =>
    rcases hpos.1 with hp | hp <;> simp only [moveOn, advance, hp]
    · exact .inl (by simp only [entry, h]; rfl)
    · simp only [afterPresent, h]
      exact preTransfer_mbOpen (beginReadBlocks_mbOpen s)
  case writeBlocks =>
    rcases hpos.1 with hp | hp <;> simp only [moveOn, advance, hp]
    · exact .inl (by simp only [entry, h]; rfl)
    · simp only [afterPresent, h]
      exact preTransfer_mbOpen (beginWriteBlocks_mbOpen s)
  case preErasePrefix =>
    rcases moveOn_command_cases hpos.1.inExtCommand with ⟨p, r, hmv⟩ | ⟨r, x, hmv, -⟩ <;> rw [hmv]
    · exact .inl rfl
    · simp only [afterCommand, h]
      exact afterPreErasePrefix_mbOpen { s with resp := r, respx := x }
  case preEraseCount =>
    rcases moveOn_command_cases hpos.1.inExtCommand with ⟨p, r, hmv⟩ | ⟨r, x, hmv, -⟩ <;> rw [hmv]
    · exact .inl rfl
    · simp only [afterCommand, h]
      exact .inr (beginWriteMulti_opening _)
  case readBlocksCmd | writeBlocksCmd | readBlocksBusy | writeBlocksStop => cases hst
  all_goals exact absurd rfl ho

/-! ### Closing it -/

theorem Err.orElse_of_ne_ok {e : Err} (h : e ≠ .ok) (later : Err) : e.orElse later = e := by
  cases e
  case ok => exact absurd rfl h
  all_goals rfl

/-- A termination is about to complete, with the first recorded error if there is one (R230, R234, R235). -/
def State.closing (s u : State) : Prop :=
  (s.seq.point = .busyWait ∨ s.seq.point = .busyCheck) ∧
    ∃ e, u.seq.point = .finish e 0 ∧ (s.firstErr ≠ .ok → e = s.firstErr)

/-- The move of a termination's busy wait keeps `MB_OPEN` or completes the operation. -/
theorem moveOn_mbOpen_of_busy {s : State} (hst : s.seq.stage = .writeBlocksStop ∨ ∃ e, s.seq.stage = .readBlocksBusy e)
    (hp : s.seq.point.inBusy) : (moveOn s).mbOpen = s.mbOpen ∨ s.closing (moveOn s) := by
  have hclose (eb : Err) : ∃ e, (afterBusy eb s).seq.point = .finish e 0 ∧ (s.firstErr ≠ .ok → e = s.firstErr) := by
    rcases hst with h | ⟨e2, h⟩ <;> simp only [afterBusy, h]
    · exact ⟨_, rfl, fun hne => Err.orElse_of_ne_ok hne eb⟩
    · refine ⟨_, rfl, fun hne => ?_⟩
      rw [Err.orElse_of_ne_ok hne e2, Err.orElse_of_ne_ok hne eb]
  cases hpt : s.seq.point <;> rw [hpt] at hp <;> simp only [moveOn, advance, hpt]
  case busyDeadline => exact .inl rfl
  case busyWait =>
    unfold busyReceived
    split_ifs
    · exact .inr ⟨.inl hpt, hclose _⟩
    · exact .inl rfl
  case busyCheck =>
    split_ifs
    · exact .inr ⟨.inr hpt, hclose _⟩
    · exact .inl rfl
  all_goals exact hp.elim

theorem afterReadBlocksCmd_mbOpen (s : State) : (afterReadBlocksCmd s).mbOpen = true := by
  unfold afterReadBlocksCmd
  split_ifs <;> rfl

theorem afterWriteBlocksCmd_mbOpen (s : State) : (afterWriteBlocksCmd s).mbOpen = true := by
  unfold afterWriteBlocksCmd
  split_ifs <;> rfl

/-- From the multi-block command on a move keeps `MB_OPEN` at 1, except at the end of the termination. -/
theorem moveOn_mbOpen_of_open {s : State} (hpos : s.positionOk) (hst : s.seq.stage.multiOpen = true) (hm : s.mbOpen = true) :
    (moveOn s).mbOpen = true ∨
      (s.seq.stage = .writeBlocksStop ∨ ∃ e, s.seq.stage = .readBlocksBusy e) ∧ s.closing (moveOn s) := by
  by_cases ho : s.seq.stage.opensOrCloses = false
  · exact .inl ((moveOn_mbOpen ho).trans hm)
  unfold State.positionOk at hpos
  cases h : s.seq.stage <;> rw [h] at hpos hst ho
  case readBlocksCmd =>
    rcases moveOn_command_cases hpos.1.inExtCommand with ⟨p, r, hmv⟩ | ⟨r, x, hmv, -⟩ <;> rw [hmv]
    · exact .inl hm
    · simp only [afterCommand, h]
      exact .inl (afterReadBlocksCmd_mbOpen _)
  case writeBlocksCmd =>
    rcases moveOn_command_cases hpos.1.inExtCommand with ⟨p, r, hmv⟩ | ⟨r, x, hmv, -⟩ <;> rw [hmv]
    · exact .inl hm
    · simp only [afterCommand, h]
      exact .inl (afterWriteBlocksCmd_mbOpen _)
  case readBlocksBusy e =>
    rcases moveOn_mbOpen_of_busy (.inr ⟨e, h⟩) hpos.1 with hk | hc
    · exact .inl (hk.trans hm)
    · exact .inr ⟨.inr ⟨e, rfl⟩, hc⟩
  case writeBlocksStop =>
    rcases hpos.1 with hp | hp | hp
    · exact .inl (by simp only [moveOn, advance, hp, afterTokenTx, h]; exact hm)
    · exact .inl (by simp only [moveOn, advance, hp]; exact hm)
    · rcases moveOn_mbOpen_of_busy (.inl h) hp with hk | hc
      · exact .inl (hk.trans hm)
      · exact .inr ⟨.inl rfl, hc⟩
  case readBlocks | writeBlocks | preErasePrefix | preEraseCount => cases hst
  all_goals exact absurd rfl ho

/-- The step that raises `MB_OPEN` sends the first byte of CMD18 or CMD25. -/
theorem turn_mbOpen_rises {s t : State} (hi : s.Inv) (h : turn s = .next t) (hs : s.mbOpen = false)
    (ht : t.mbOpen = true) :
    ∃ st, (st = .readBlocksCmd ∨ st = .writeBlocksCmd) ∧ t.seq = ⟨st, .cmdTx 0, true⟩ ∧ t.xchgs = s.xchgs + 1 := by
  cases hb : s.busy with
  | false =>
    cases (turn_idle hb).symm.trans h
    exact absurd (hs.symm.trans ht) Bool.false_ne_true
  | true =>
    obtain ⟨hd, hpos⟩ := hi.position hb
    obtain ⟨hd', -⟩ | ⟨-, hp⟩ := performed_of_turn hb h
    · exact absurd (hd'.symm.trans hd) Bool.false_ne_true
    rcases moveOn_mbOpen_of_closed hpos (hi.multiBlock.symm.trans hs) with hk | ⟨st, hst, hseq⟩
    · exact absurd (ht.symm.trans (hp.mbOpen.trans (hk.trans hs))) (by decide)
    · obtain ⟨o, rfl⟩ := hp.of_exchanges (by rw [hseq]; rfl)
      have hx : (moveOn s).xchgs = s.xchgs := moveOn_outside_field State.xchgs (fun _ => rfl) s
      exact ⟨st, hst, by rw [xchg_seq, hseq], by rw [xchg_xchgs, hx]⟩

/-- The step that clears `MB_OPEN` is the completion after the termination's busy wait. -/
theorem turn_mbOpen_falls {s t : State} (hi : s.Inv) (h : turn s = .next t) (hs : s.mbOpen = true)
    (ht : t.mbOpen = false) :
    t.busy = false ∧ (s.seq.stage = .writeBlocksStop ∨ ∃ e, s.seq.stage = .readBlocksBusy e) ∧
      (s.seq.point = .busyWait ∨ s.seq.point = .busyCheck) ∧ (s.firstErr ≠ .ok → t.result = s.firstErr) := by
  cases hb : s.busy with
  | false =>
    cases (turn_idle hb).symm.trans h
    exact absurd (ht.symm.trans hs) Bool.false_ne_true
  | true =>
    obtain ⟨hd, hpos⟩ := hi.position hb
    obtain ⟨hd', -⟩ | ⟨-, hp⟩ := performed_of_turn hb h
    · exact absurd (hd'.symm.trans hd) Bool.false_ne_true
    rcases moveOn_mbOpen_of_open hpos (hi.multiBlock.symm.trans hs) hs with hk | ⟨hst, hpt, e, hfin, he⟩
    · exact absurd (ht.symm.trans (hp.mbOpen.trans hk)) Bool.false_ne_true
    · rw [hp.of_finish hfin]
      exact ⟨rfl, hst, hpt, he⟩

/-- Settles O57: the invariant ties `MB_OPEN` to the stages from the command to the termination; it rises and falls only as
`turn_mbOpen_rises` and `turn_mbOpen_falls` say. -/
theorem terminationAlwaysRuns : Obligations.TerminationAlwaysRuns := by
  refine ⟨fun s hi hb => ?_, fun s hi hst => ?_, fun s t => turn_mbOpen_rises, fun s t => turn_mbOpen_falls⟩
  · rw [hi.multiBlock, (hi.idle hb).1]; rfl
  · rw [hi.multiBlock]
    rcases hst with hst | hst <;> rw [hst] <;> rfl

end Sys2Proof.Machine
end

section
/-! PROOFS. The events of the step: the reset (O12), the register window (O13, O14), the host operations (O16), and how a
controller step runs the instruction at its point (O15). -/

namespace Sys2Proof.Machine

/-! ### Reset -/

/-- Settles O12: `step` answers a reset event with `hwReset`, whose fields are the reset table's. -/
theorem resetTable : Obligations.ResetTable := by
  intro s r hin
  refine ⟨hwReset { s with inputs := r }, by unfold step; rw [hin], ?_⟩
  repeat' apply And.intro
  all_goals rfl

/-! ### The register window -/

section Window
variable {s : State} {r : List Input}

theorem step_read {off : Nat} (hin : s.inputs = .read off :: r) :
    step s = .next { s with inputs := r, rdata := hostReadWord s off } := by
  unfold step; rw [hin]; rfl

theorem step_write {off : Nat} {v : Word} (hin : s.inputs = .write off v :: r) :
    step s = hostWrite off v { s with inputs := r } := by
  unfold step; rw [hin]

theorem step_narrow {off : Nat} (hin : s.inputs = .narrow off :: r) : step s = .refused .narrowAccess := by
  unfold step; rw [hin]

end Window

theorem hostReadWord_unmapped {s : State} {off : Nat}
    (h : off ∉ [0x00, 0x04, 0x08, 0x0C, 0x10, 0x14, 0x18, 0x1C]) : hostReadWord s off = 0 := by
  simp only [List.mem_cons, List.not_mem_nil, or_false, not_or] at h
  simp only [hostReadWord, h, if_false]

/-- The bits of `STATUS` (R26). -/
theorem statusWord_bits (s : State) :
    s.statusWord.getLsbD 0 = s.busy ∧ s.statusWord.getLsbD 1 = s.cd ∧ s.statusWord.extractLsb' 2 2 = s.lifecycle.code ∧
      s.statusWord.getLsbD 4 = s.blockAddr ∧ s.statusWord.getLsbD 5 = s.crcOn ∧ s.statusWord.getLsbD 6 = s.legacy ∧
      s.statusWord.getLsbD 7 = s.cs ∧ s.statusWord.getLsbD 8 = s.clkFast ∧ s.statusWord.getLsbD 9 = s.scValid ∧
      s.statusWord.extractLsb' 10 22 = 0 := by
  unfold State.statusWord
  refine ⟨?_, ?_, BitVec.eq_of_getLsbD_eq fun i hi => ?_, ?_, ?_, ?_, ?_, ?_, ?_, BitVec.eq_of_getLsbD_eq fun i hi => ?_⟩
  case refine_3 =>
    simp (disch := omega) only [BitVec.getLsbD_extractLsb', BitVec.getLsbD_append, if_neg, if_pos, Nat.sub_sub,
      Nat.add_sub_cancel_left, hi, decide_true, Bool.true_and, if_true]
  case refine_10 =>
    simp (disch := omega) only [BitVec.getLsbD_extractLsb', BitVec.getLsbD_append, if_neg, BitVec.getLsbD_zero, Bool.and_false]
    exact BitVec.getLsbD_zero.symm
  all_goals
    simp only [BitVec.getLsbD_append, BitVec.getLsbD_ofBool]
    rfl


/-- A write of a register other than `CTRL` (R23-R25, R30). -/
theorem hostWriteReg_eq (off : Nat) (v : Word) (s : State) :
    hostWriteReg off v s =
      { s with
        sector := if off = 0x04 then v else s.sector
        count := if off = 0x08 then v else s.count
        len := if off = 0x0C then v.extractLsb' 0 16 else s.len } := by
  by_cases h4 : off = 0x04
  · subst h4; rfl
  by_cases h8 : off = 0x08
  · subst h8; rfl
  by_cases hC : off = 0x0C
  · subst hC; rfl
  simp only [hostWriteReg, h4, h8, hC, if_false]

/-- Settles O13: the read of each offset is `hostReadWord`, with the bits of `STATUS` by `statusWord_bits`; the write of an
offset other than `CTRL` is `hostWriteReg`. -/
theorem hostReadsAndWrites : Obligations.HostReadsAndWrites := by
  refine ⟨fun s r off hin => ⟨hostReadWord s off, step_read hin, ?_⟩, fun s r off v => ⟨fun hin hoff => ?_, step_narrow⟩⟩
  · refine ⟨?_, ?_, ?_, ?_, ?_, ?_, ?_, ?_, hostReadWord_unmapped⟩ <;> rintro rfl
    · exact BitVec.toNat_setWidth_of_le (show 8 ≤ 32 by decide)
    · rfl
    · rfl
    · exact BitVec.toNat_setWidth_of_le (show 16 ≤ 32 by decide)
    · exact statusWord_bits s
    · exact BitVec.toNat_setWidth_of_le (show 4 ≤ 32 by decide)
    · rfl
    · rfl
  · rw [step_write hin, hostWrite, if_neg hoff, hostWriteReg_eq]

/-- Settles O14: a `CTRL` write is `start` of the stage its low byte names (`hostWrite_ctrl`), which an idle block takes and a
busy one ignores. -/
theorem ctrlWrite : Obligations.CtrlWrite := by
  refine ⟨fun s r hin => ?_, rfl, fun s r v hin => ⟨fun hb => ?_, fun hb => ?_⟩⟩
  · have hword : hostReadWord s 0 = 0#24 ++ s.opcode := BitVec.setWidth_eq_append (show 8 ≤ 32 by decide)
    rw [step_read hin, hword]
  · rw [step_write hin, hostWrite_ctrl]
    exact congrArg _ (start_busy _ _ hb)
  · rw [step_write hin, hostWrite_ctrl]
    exact congrArg _ (start_idle _ _ hb)

/-- Settles O16: executing a host operation is `start` of its stage (`exec_of_hostOperation`). -/
theorem hostOperationsStart : Obligations.HostOperationsStart := by
  intro i op st s hmem
  rw [exec_of_hostOperation hmem]
  exact ⟨fun hb => by rw [start_idle _ _ hb], fun hb => by rw [start_busy _ _ hb]⟩

/-! ### One step -/

/-- With no event, or with `run` first, the controller steps. -/
theorem step_of_run {s u : State} (h : s.inputs = [] ∧ u = s ∨ ∃ r, s.inputs = .run :: r ∧ u = { s with inputs := r }) :
    step s = turn u := by
  unfold step
  rcases h with ⟨hin, rfl⟩ | ⟨r, hin, rfl⟩ <;> rw [hin]

/-- Settles O15: a step is `turn`, whose two halves `retire` and `issue` run what the decoder answers at the point. -/
theorem stepRunsDecodedInstruction : Obligations.StepRunsDecodedInstruction := by
  refine ⟨fun s v r i hin hdec => ?_, fun s u hu => ?_⟩
  · rw [step_write hin, hostWrite, if_pos rfl, hdec]
  · rw [step_of_run hu]
    refine ⟨turn_idle, fun c w i hb hd hr hdec => ?_, fun c w i hb hd hs hdec => ?_, fun hb hd hr => ?_⟩
    · rw [turn_busy hb, retire_decoded hd hr hdec]
    · rw [turn_due hd hb, issue_decoded hs hdec]
    · rw [turn_busy hb, retire_advance hd hr, andThen_next]

end Sys2Proof.Machine
end

section
/-! PROOFS. What the transfers do with a status byte (O22), without one (O23), and before their first command (O37). -/

namespace Sys2Proof.Machine

/-! ### Status bytes -/

/-- A status byte has bit 7 clear (R90). -/
theorem statusByte_bit7 (p a e c l r i : Bool) : (statusByte p a e c l r i).getLsbD 7 = false := by
  revert p a e c l r i; decide

section Checks
variable {b : Byte}

theorem xferCheck_status (h : b.getLsbD 7 = false) : xferCheck b = if b = 0 then .ok else mapErrBits b := by
  unfold xferCheck
  rw [h, if_neg Bool.false_ne_true]

theorem xferCheck_noStatus (h : b.getLsbD 7 = true) : xferCheck b = .timeout := if_pos h

theorem initCheck_noStatus (h : b.getLsbD 7 = true) : initCheck b = .timeout := if_pos h

theorem voltageCheck_noStatus (x : Word) (h : b.getLsbD 7 = true) : voltageCheck b x = .error .timeout := if_pos h

theorem accepted_iff (b : Byte) : accepted b = true ↔ b = 0x00 ∨ b = 0x01 := by
  revert b; decide

theorem accepted_noStatus (h : b.getLsbD 7 = true) : accepted b = false := by
  revert b; decide

theorem mapErrBits_ne_ok (b : Byte) : mapErrBits b ≠ .ok := by
  unfold mapErrBits; split_ifs <;> exact Err.noConfusion

/-- An error of the status byte lets CMD17 try again unless it is the parameter error (R228). -/
theorem retryable_mapErrBits (b : Byte) : retryable (mapErrBits b) = true ↔ mapErrBits b ≠ .parameterOutOfRange := by
  unfold mapErrBits; split_ifs <;> decide

end Checks

/-! ### The transfer commands, by their status byte -/

/-- A check that splits on the status byte being 0x00. -/
theorem ite_xferCheck {α : Type} {b : Byte} (h : b.getLsbD 7 = false) (x : α) (f : Err → α) :
    (if xferCheck b = .ok then x else f (xferCheck b)) = if b = 0 then x else f (mapErrBits b) := by
  rw [xferCheck_status h]
  by_cases h0 : b = 0
  · rw [if_pos h0, if_pos rfl, if_pos h0]
  · rw [if_neg h0, if_neg (mapErrBits_ne_ok b), if_neg h0]

/-- A status byte executed at a poll ends it (R90, R152). -/
theorem exec_resp1_poll {s : State} {st : Stage} {k : Nat} (hseq : s.seq = ⟨st, .poll k, true⟩) (he : st.extended = false)
    (p a e c l r i : Bool) :
    exec (.resp1 p a e c l r i) s = .next (afterCommand { s with resp := statusByte p a e c l r i }) := by
  have hat : s.atPoll = true := by rw [State.atPoll, hseq]; rfl
  have hret : pollReturns (statusByte p a e c l r i) s = afterCommand { s with resp := statusByte p a e c l r i } := by
    rw [pollReturns, hseq, if_neg (by rw [he]; exact fun h => Bool.false_ne_true h.2)]
  rw [← hret]
  exact congrArg Host.Outcome.next (if_pos hat)

/-- What an error that lets CMD17 try again does (R227, R228). -/
theorem retryOrRaise_of_retryable {e : Err} (s : State) (h : retryable e = true) :
    retryOrRaise e s =
      if s.attempt < s.cfg.readAttempts then
        sendCommand .readBlockCmd 17 s.sectorArg { s with attempt := s.attempt + 1 }
      else s.due (.finish e 0) := by
  simp only [retryOrRaise, h, true_and]
  rfl

theorem retryOrRaise_mapErrBits (b : Byte) (s : State) :
    retryOrRaise (mapErrBits b) s =
      if mapErrBits b ≠ .parameterOutOfRange ∧ s.attempt < s.cfg.readAttempts then
        sendCommand .readBlockCmd 17 s.sectorArg { s with attempt := s.attempt + 1 }
      else s.due (.finish (mapErrBits b) 0) := by
  simp only [retryOrRaise, retryable_mapErrBits]
  rfl

/-- Settles O22: the status byte ends the poll (`exec_resp1_poll`), and the command's caller goes by its check. -/
theorem statusByteInTransfer : Obligations.StatusByteInTransfer := by
  refine ⟨fun p a e c l r i k s u b hb hu => ?_, fun p a e c l r i k s u b hb hu => ?_⟩ <;> subst hu
  · have h7 : b.getLsbD 7 = false := by rw [hb]; exact statusByte_bit7 ..
    refine ⟨fun hs => ?_, fun hs => ?_, fun hs => ?_, fun hs => ?_, fun hs => ?_⟩ <;>
      rw [exec_resp1_poll hs rfl, ← hb] <;> refine congrArg _ ?_ <;> simp only [afterCommand, hs]
    · exact (ite_xferCheck h7 _ (retryOrRaise · _)).trans (by rw [retryOrRaise_mapErrBits]; rfl)
    · exact ite_xferCheck h7 _ (raises · _)
    · exact ite_xferCheck h7 _ (raises · _)
    · exact ite_xferCheck h7 _ fun err => stopRead { s with resp := b, firstErr := err, mbOpen := true }
    · exact ite_xferCheck h7 _ fun err => stopWrite { s with resp := b, firstErr := err, mbOpen := true }
  · have h7 : b.getLsbD 7 = false := by rw [hb]; exact statusByte_bit7 ..
    refine ⟨fun hs => ?_, fun hs => ?_, fun hs => ?_⟩ <;>
      rw [exec_resp1_poll hs rfl, ← hb] <;> refine congrArg _ ?_ <;> simp only [afterCommand, hs]
    · rw [← xferCheck_status h7]; rfl
    · unfold afterPreErasePrefix
      dsimp only
      simp only [accepted_iff]
      rfl
    · rfl

/-! ### No response -/

/-- After the eighth poll without a status byte the command's caller goes on with the last byte (R152, R154). -/
theorem retire_noResponse {s : State} (hd : s.seq.done = true) (hp : s.seq.point = .poll 8) (h7 : s.rx.getLsbD 7 = true) :
    retire s = .next (afterCommand { s with resp := s.rx }) := by
  have hne : ¬ s.rx.getLsbD 7 = false := by rw [h7]; exact Bool.noConfusion
  rw [retire_poll hd hp, statusReceived, if_neg hne, pollAgain, if_neg (by decide), pollReturns, if_neg fun h => hne h.1]

section NoStatus
variable {s : State} (h7 : s.resp.getLsbD 7 = true)
include h7

theorem afterReset_noStatus :
    afterReset s = if s.attempt < s.cfg.goIdleAttempts then sendCommand .initReset 0 0 { s with attempt := s.attempt + 1 }
      else raisesInit .timeout s :=
  if_neg fun h => by rw [h] at h7; cases h7

/-- An initialization command that requires its status is torn down without one (R155, R194). -/
theorem requireInit_noStatus (k : State → State) : requireInit (initCheck s.resp) k s = raisesInit .timeout s := by
  rw [initCheck_noStatus h7]; rfl

theorem afterVcheck_noStatus : afterVcheck s = raisesInit .timeout s := by
  rw [afterVcheck, voltageCheck_noStatus _ h7]

/-- The transfer commands' check of no status byte is TIMEOUT. -/
theorem ite_xferCheck_noStatus {α : Type} (x : α) (f : Err → α) :
    (if xferCheck s.resp = .ok then x else f (xferCheck s.resp)) = f .timeout := by
  rw [xferCheck_noStatus h7]; rfl

theorem afterCrcen_noStatus : afterCrcen s = sendCommand .initOcr 58 0 { s with crcOn := false } := by
  rw [afterCrcen, accepted_noStatus h7]

theorem afterStop_noStatus : afterStop s = s.enter (.readBlocksBusy .timeout) .busyDeadline := by
  rw [afterStop, xferCheck_noStatus h7]

theorem afterPreErasePrefix_noStatus : afterPreErasePrefix s = beginWriteMulti s := by
  rw [afterPreErasePrefix, accepted_noStatus h7]; rfl

end NoStatus

/-- Settles O23: every check of a byte with bit 7 set is TIMEOUT or "not accepted", and the callers go by it. -/
theorem noResponse : Obligations.NoResponse := by
  intro s u hd hp h7 hu
  rw [retire_noResponse hd hp h7, ← hu]
  have hresp : u.resp.getLsbD 7 = true := by rw [hu]; exact h7
  have hstage : u.seq.stage = s.seq.stage := by rw [hu]
  have hattempt : u.attempt = s.attempt := by rw [hu]
  have hcfg : u.cfg = s.cfg := by rw [hu]
  have harg : u.sectorArg = addrOf s.blockAddr s.latSector := by rw [hu]; rfl
  rw [← hstage, ← hattempt, ← hcfg, ← harg]
  refine ⟨fun h => ?_, fun h => ?_, fun h => ?_, fun h => ?_, fun h => ?_, fun h => ?_, fun h => ?_, fun h => ?_, fun h => ?_⟩
  · rw [afterCommand, h]
    exact congrArg _ (afterReset_noStatus hresp)
  · rw [afterCommand, h]
    exact congrArg _ (afterCrcen_noStatus hresp)
  · simp only [List.mem_cons, List.not_mem_nil, or_false] at h
    rcases h with h | h | h | h | h | h <;> rw [afterCommand, h] <;> refine congrArg _ ?_
    · exact afterVcheck_noStatus hresp
    · exact requireInit_noStatus hresp _
    · exact requireInit_noStatus hresp _
    · exact requireInit_noStatus hresp _
    · exact requireInit_noStatus hresp _
    · exact requireInit_noStatus hresp _
  · rw [afterCommand, h, ← retryOrRaise_of_retryable u rfl]
    exact congrArg _ (ite_xferCheck_noStatus hresp _ (retryOrRaise · u))
  · rcases h with h | h <;> rw [afterCommand, h]
    · exact congrArg _ (ite_xferCheck_noStatus hresp _ (raises · u))
    · exact congrArg _ (ite_xferCheck_noStatus hresp _ (raises · u))
  · rw [afterCommand, h]
    exact congrArg _ (ite_xferCheck_noStatus hresp _ fun err => stopRead { u with firstErr := err, mbOpen := true })
  · rw [afterCommand, h]
    exact congrArg _ (ite_xferCheck_noStatus hresp _ fun err => stopWrite { u with firstErr := err, mbOpen := true })
  · rw [afterCommand, h]
    exact congrArg _ (afterStop_noStatus hresp)
  · rcases h with h | h <;> rw [afterCommand, h]
    · exact congrArg _ (afterPreErasePrefix_noStatus hresp)
    · rfl

/-! ### Preconditions -/

theorem retire_present {s : State} {st : Stage} (hseq : s.seq = ⟨st, .present, true⟩) :
    retire s = .next (afterPresent s) := by
  rw [retire_eq_moveOn (by rw [hseq]), moveOn, advance, hseq]

/-- The checks after the session's, in their order (R220). -/
theorem ite_preCheck (k : State → State) (s : State) (n : Nat) :
    (if s.preCheck n = .ok then k s else raises (s.preCheck n) s) =
      if n = 0 then s.due (.finish .parameterOutOfRange 0)
      else if s.blockAddr = false ∧ s.latSector.toNat > 0x007FFFFF then s.due (.finish .parameterOutOfRange 0)
      else if 512 * n > s.cfg.hostbufSize then s.due (.finish .parameterOutOfRange 0)
      else k s := by
  unfold State.preCheck
  by_cases hn : n = 0
  · rw [if_pos hn, if_pos hn]; rfl
  rw [if_neg hn, if_neg hn]
  by_cases hr : s.blockAddr = false ∧ s.latSector.toNat > 0x007FFFFF
  · rw [if_pos hr, if_pos hr]; rfl
  rw [if_neg hr, if_neg hr]
  by_cases hb : 512 * n > s.cfg.hostbufSize
  · rw [if_pos hb, show blockSize = 512 from rfl, if_pos hb]; rfl
  · rw [if_neg hb, show blockSize = 512 from rfl, if_neg hb]; rfl

/-- `Pre(s, n)` with its checks in their order (R220). -/
theorem preTransfer_eq (k : State → State) {s : State} {n : Nat} (hn : s.transferCount = n) :
    preTransfer k s =
      if s.pval = false then beginTeardown (.complete .noCard) s
      else if s.lifecycle ≠ .ready then s.due (.finish .noCard 0)
      else if n = 0 then s.due (.finish .parameterOutOfRange 0)
      else if s.blockAddr = false ∧ s.latSector.toNat > 0x007FFFFF then s.due (.finish .parameterOutOfRange 0)
      else if 512 * n > s.cfg.hostbufSize then s.due (.finish .parameterOutOfRange 0)
      else k s := by
  rw [← ite_preCheck, ← hn]
  rfl

/-- The first command of READ_BLOCKS, by its count (R230, R236). -/
theorem beginReadBlocks_eq (s : State) :
    beginReadBlocks s =
      if s.latCount.toNat = 1 then beginReadBlock s else sendCommand .readBlocksCmd 18 s.sectorArg { s with mbOpen := true } := by
  have h1 : s.latCount = 1 ↔ s.latCount.toNat = 1 := BitVec.toNat_inj.symm
  simp only [beginReadBlocks, h1, openMulti_eq]

/-- The first command of WRITE_BLOCKS, by its count (R232, R233, R236). -/
theorem beginWriteBlocks_eq (s : State) :
    beginWriteBlocks s =
      if s.latCount.toNat = 1 then beginWriteBlock s
      else if s.cfg.preErase then sendCommand .preErasePrefix 55 0 s
      else sendCommand .writeBlocksCmd 25 s.sectorArg { s with mbOpen := true } := by
  have h1 : s.latCount = 1 ↔ s.latCount.toNat = 1 := BitVec.toNat_inj.symm
  simp only [beginWriteBlocks, h1, beginWriteMulti, openMulti_eq]

/-- Settles O37: after its `Present()` each transfer makes the checks of `preTransfer_eq`, then sends its first command. -/
theorem transferPreconditions : Obligations.TransferPreconditions := by
  intro st n s hseq hmem
  rw [retire_present hseq]
  refine congrArg _ ?_
  simp only [List.mem_cons, Prod.mk.injEq, List.not_mem_nil, or_false] at hmem
  rcases hmem with ⟨rfl, rfl⟩ | ⟨rfl, rfl⟩ | ⟨rfl, rfl⟩ | ⟨rfl, rfl⟩ <;> simp only [afterPresent, hseq]
  · rw [preTransfer_eq beginReadBlock (by rw [State.transferCount, hseq])]
    rfl
  · rw [preTransfer_eq beginWriteBlock (by rw [State.transferCount, hseq])]
    rfl
  · rw [preTransfer_eq beginReadBlocks (by rw [State.transferCount, hseq]), beginReadBlocks_eq]
    simp only [reduceCtorEq, false_or, false_and, true_and, if_true, if_false]
    rfl
  · rw [preTransfer_eq beginWriteBlocks (by rw [State.transferCount, hseq]), beginWriteBlocks_eq]
    simp only [reduceCtorEq, false_or, false_and, true_and, if_false]
    rfl

end Sys2Proof.Machine
end

section
/-! PROOFS. The six bytes of a framed packet (O4). -/

namespace Sys2Proof

/-- The start and direction bits before the index are 0x40 (R84). -/
theorem startBits_append (idx : BitVec 6) : 0b01#2 ++ idx = 0x40#8 ||| idx.setWidth 8 := by
  revert idx; decide

/-- The CRC7 field before the end bit is the CRC shifted left once, with bit 0 set (R85). -/
theorem crc_append_endBit (crc : BitVec 7) : crc ++ 1#1 = crc.setWidth 8 <<< 1 ||| 1#8 := by
  revert crc; decide

theorem packetByte_getLsbD (w : BitVec 48) (k i : Nat) :
    (packetByte w k).getLsbD i = (decide (i < 8) && w.getLsbD (40 - 8 * k + i)) :=
  BitVec.getLsbD_extractLsb' ..

section Packet
variable (idx : BitVec 6) (arg : Word) (crc : BitVec 7)

theorem packetByte_zero : packetByte (packet idx arg crc) 0 = 0x40#8 ||| idx.setWidth 8 := by
  rw [← startBits_append]
  refine BitVec.eq_of_getLsbD_eq fun i hi => ?_
  rw [packetByte_getLsbD, packet_getLsbD, BitVec.getLsbD_append]
  interval_cases i <;> rfl

/-- Bytes 1 to 4 are the argument, its most significant byte first (R64). -/
theorem packetByte_arg {k : Nat} (h1 : 1 ≤ k) (h4 : k ≤ 4) :
    packetByte (packet idx arg crc) k = arg.extractLsb' (32 - 8 * k) 8 := by
  refine BitVec.eq_of_getLsbD_eq fun i hi => ?_
  rw [packetByte_getLsbD, packet_getLsbD, BitVec.getLsbD_extractLsb', if_neg (by omega), if_neg (by omega),
    if_pos (by omega), show 40 - 8 * k + i - 8 = 32 - 8 * k + i by omega]

theorem packetByte_five : packetByte (packet idx arg crc) 5 = crc.setWidth 8 <<< 1 ||| 1#8 := by
  rw [← crc_append_endBit]
  refine BitVec.eq_of_getLsbD_eq fun i hi => ?_
  rw [packetByte_getLsbD, packet_getLsbD, BitVec.getLsbD_append]
  interval_cases i <;> rfl

/-- A packet on the wire (R84): the index, the argument most significant byte first, the CRC7 with the end bit. -/
theorem packet_bytes :
    (List.range 6).map (packetByte (packet idx arg crc)) =
      (0x40#8 ||| idx.setWidth 8) :: be32 arg ++ [crc.setWidth 8 <<< 1 ||| 1#8] := by
  show [_, _, _, _, _, _] = _
  rw [packetByte_zero, packetByte_five]
  simp only [packetByte_arg, Nat.le_refl, Nat.reduceLeDiff]
  rfl

end Packet

theorem crcComputed_iff (e : Bool) (idx : BitVec 6) : crcComputed e idx = true ↔ e = true ∨ idx = 0 ∨ idx = 8 := by
  simp [crcComputed, or_assoc]

/-- Settles O4: the bytes of a packet, with the CRC7 field the framer chooses; the field 1111111 with the end bit is 0xFF. -/
theorem framedPacketBytes : Obligations.FramedPacketBytes := by
  refine ⟨fun e idx arg => ?_, by decide +kernel, by decide +kernel, by decide +kernel⟩
  rw [frame, packet_bytes, ← startBits_append]
  by_cases h : crcComputed e idx = true
  · rw [if_pos h, if_pos ((crcComputed_iff e idx).1 h)]; rfl
  · rw [if_neg h, if_neg fun h' => h ((crcComputed_iff e idx).2 h')]; rfl

end Sys2Proof
end

section
/-! PROOFS. Fields put together from bytes: a sector as a command argument (O9), the CSD fields by their CSD bit numbers (O11). -/

namespace Sys2Proof.Machine

/-! ### A sector as an argument -/

theorem addrOf_byte_toNat (s : Word) : (addrOf false s).toNat = s.toNat * 512 % 2 ^ 32 := by
  show (s <<< 9).toNat = _
  rw [BitVec.toNat_shiftLeft, Nat.shiftLeft_eq]

/-- An accepted transfer of a byte-addressed session ends below 2^32 (R220). -/
theorem latSector_le_of_preCheck {s : State} {n : Nat} (h : s.preCheck n = .ok) (hb : s.blockAddr = false) :
    s.latSector.toNat ≤ 0x007FFFFF := by
  unfold State.preCheck at h
  split_ifs at h with h0 hs
  exact Nat.le_of_not_lt fun hlt => hs ⟨hb, hlt⟩

/-- Settles O9: a byte address is sector x 512 modulo 2^32, and the range check of the preconditions keeps it below 2^32. -/
theorem sectorTranslation : Obligations.SectorTranslation := by
  refine ⟨fun _ => rfl, addrOf_byte_toNat, fun s h hb => ?_⟩
  have hle := latSector_le_of_preCheck h hb
  rw [hb, addrOf_byte_toNat, Nat.mod_eq_of_lt (by omega)]

/-! ### The CSD by bit numbers -/

/-- `m` is the number with the CSD bits `n` to `n + k - 1`, bit `n` the least significant, and no others (R66). -/
def IsCsdField (c : List Byte) (k n m : Nat) : Prop := ∀ j, m.testBit j = (decide (j < k) && csdBit c (n + j))

namespace IsCsdField
variable {c : List Byte} {k w n m h : Nat}

/-- Byte `i` holds the eight CSD bits from 8 (15 - i) on (R66). -/
theorem byte (c : List Byte) {i : Nat} (hi : n + 8 * i = 120) : IsCsdField c 8 n (csdByte c i) := by
  intro j
  by_cases hj : j < 8
  · rw [csdBit, show 15 - (n + j) / 8 = i by omega, show (n + j) % 8 = j by omega, decide_eq_true hj, Bool.true_and]
    rfl
  · rw [decide_eq_false hj, Bool.false_and]
    exact BitVec.getLsbD_of_ge (c.getD i 0) j (Nat.le_of_not_lt hj)

/-- A mask keeps the low bits. -/
theorem low (hm : IsCsdField c w n m) (hk : k ≤ w) : IsCsdField c k n (m &&& (2 ^ k - 1)) := by
  intro j
  rw [Nat.testBit_and, Nat.testBit_two_pow_sub_one, hm]
  by_cases hj : j < k
  · simp [hj, Nat.lt_of_lt_of_le hj hk]
  · simp [hj]

/-- A right shift drops the low bits. -/
theorem high {r : Nat} (hm : IsCsdField c (k + r) n m) : IsCsdField c k (n + r) (m >>> r) := by
  intro j
  rw [Nat.testBit_shiftRight, hm, decide_eq_decide.2 (by omega : r + j < k + r ↔ j < k), Nat.add_assoc]

/-- Two adjacent fields are one. -/
theorem append (hh : IsCsdField c w (n + k) h) (hm : IsCsdField c k n m) : IsCsdField c (w + k) n (h <<< k ||| m) := by
  intro j
  rw [Nat.testBit_or, Nat.testBit_shiftLeft, hh, hm]
  by_cases hj : j < k
  · simp [hj, Nat.not_le.2 hj, Nat.lt_add_left w hj]
  · have hjk : j - k < w ↔ j < w + k := by omega
    rw [show n + k + (j - k) = n + j by omega]
    simp [hj, hjk, Nat.le_of_not_lt hj]

end IsCsdField

/-- Settles O11: each field is put together from whole bytes, their low bits and their high bits, adjacent in the CSD. -/
theorem csdFieldBits : Obligations.CsdFieldBits := by
  intro c
  have version : IsCsdField c 2 126 (csdVersion c) := .high (k := 2) (.byte c rfl)
  have sizeV2 : IsCsdField c 22 48 (csdSizeV2 c) := by
    have top : IsCsdField c 6 64 (csdByte c 7 &&& 0x3F) := .low (k := 6) (.byte c rfl) (by decide)
    have bottom : IsCsdField c 16 48 (csdByte c 8 <<< 8 ||| csdByte c 9) := .append (k := 8) (.byte c rfl) (.byte c rfl)
    rw [csdSizeV2, Nat.or_assoc]
    exact .append top bottom
  have blLen : IsCsdField c 4 80 (csdBlLen c) := .low (k := 4) (.byte c rfl) (by decide)
  have sizeV1 : IsCsdField c 12 62 (csdSizeV1 c) := by
    have top : IsCsdField c 2 72 (csdByte c 6 &&& 0x03) := .low (k := 2) (.byte c rfl) (by decide)
    have last : IsCsdField c 2 62 (csdByte c 8 >>> 6) := .high (k := 2) (.byte c rfl)
    have bottom : IsCsdField c 10 62 (csdByte c 7 <<< 2 ||| csdByte c 8 >>> 6) := .append (k := 2) (.byte c rfl) last
    rw [csdSizeV1, Nat.or_assoc]
    exact .append top bottom
  have mult : IsCsdField c 3 47 (csdMult c) := by
    have top : IsCsdField c 2 48 (csdByte c 9 &&& 0x03) := .low (k := 2) (.byte c rfl) (by decide)
    have last : IsCsdField c 1 47 (csdByte c 10 >>> 7) := .high (k := 1) (.byte c rfl)
    exact .append top last
  exact ⟨version, sizeV2, blLen, sizeV1, mult⟩

end Sys2Proof.Machine
end

section
/-! PROOFS. The host's accesses to HOSTBUF (O58). -/

namespace Sys2Proof.Machine

section Buffer
variable {s : State} {r : List Input} {a : Nat}

theorem step_bufWrite {b : Byte} (hin : s.inputs = .bufWrite a b :: r) :
    step s = hostBufWrite a b { s with inputs := r } := by
  unfold step; rw [hin]

theorem step_bufRead (hin : s.inputs = .bufRead a :: r) : step s = hostBufRead a { s with inputs := r } := by
  unfold step; rw [hin]

end Buffer

/-- Settles O58: an access below the size is a write or a read of the canonical memory; any other faults. -/
theorem hostBufferAccess : Obligations.HostBufferAccess := by
  intro s r a b hwf
  refine ⟨fun hin ha => ⟨s.hostbuf.write a b, ?_, Mem.write_wf hwf a b, Mem.read_write_same hwf a b,
    fun x hx => Mem.read_write_other hwf b hx⟩, fun hin ha => ?_, ?_⟩
  · rw [step_bufWrite hin, hostBufWrite, if_pos ha]
  · rw [step_bufRead hin, hostBufRead, if_pos ha]
  · rintro (hin | hin) ha
    · rw [step_bufWrite hin, hostBufWrite, if_neg (Nat.not_lt.2 ha)]
    · rw [step_bufRead hin, hostBufRead, if_neg (Nat.not_lt.2 ha)]

end Sys2Proof.Machine
end

section
/-! PROOFS. Runs of the controller put together from single steps: how many steps, which bytes go out, and what stays (`Sends`). -/

namespace Sys2Proof.Machine

/-! ### `turns` and `sentIn`, one step after another -/

theorem turns_add (m n : Nat) (s : State) : turns (m + n) s = andThen (turns m s) (turns n) := by
  induction m generalizing s with
  | zero => rw [Nat.zero_add]; rfl
  | succ m ih =>
    rw [Nat.add_right_comm]
    simp only [turns]
    cases turn s with
    | next u => exact ih u
    | fault => rfl
    | refused => rfl

theorem sentIn_of_next {s t : State} (h : turn s = .next t) (n : Nat) :
    sentIn (n + 1) s = if t.xchgs = s.xchgs then sentIn n t else t.mosi :: sentIn n t := by
  rw [sentIn, h]

theorem sentIn_add {m : Nat} {s t : State} (h : turns m s = .next t) (n : Nat) :
    sentIn (m + n) s = sentIn m s ++ sentIn n t := by
  induction m generalizing s with
  | zero => cases h; rw [Nat.zero_add]; rfl
  | succ m ih =>
    obtain ⟨u, hu, hrest⟩ := andThen_eq_next.1 h
    rw [Nat.add_right_comm, sentIn_of_next hu, sentIn_of_next hu, ih hrest]
    split <;> rfl

/-- The register updates of a step at rest exchange nothing, so the step is that of the state in which the next primitive is due. -/
theorem turn_moveOn {s : State} (hb : s.busy = true) (hd : s.seq.done = true) : turn s = turn (moveOn s) := by
  have hb' : (moveOn s).busy = true := (moveOn_outside_field State.busy (fun _ => rfl) s).trans hb
  rw [turn_at_rest hd hb, turn_due (moveOn_moves s).due hb']

/-! ### Runs that drive given bytes -/

/-- A field that `keep` keeps is the same in two states that agree after `keep`. -/
theorem field_of_kept {α : Type} {keep : State → State} {s t : State} (h : keep t = keep s) (φ : State → α)
    (hφ : ∀ x : State, φ (keep x) = φ x := by exact fun _ => rfl) : φ t = φ s := by
  rw [← hφ t, h, hφ]

/-- `n` steps of the controller lead from `s` to `t`, drive the bytes `bs`, one exchange for each, and leave what `keep` keeps. -/
structure Sends {α : Type} (keep : State → α) (n : Nat) (bs : List Byte) (s t : State) : Prop where
  run : turns n s = .next t
  sent : sentIn n s = bs
  xchgs : t.xchgs = s.xchgs + bs.length
  miso : t.miso = s.miso.drop bs.length
  kept : keep t = keep s

namespace Sends
variable {α : Type} {keep : State → α} {m n : Nat} {bs cs : List Byte} {s t u : State}

theorem refl (s : State) : Sends keep 0 [] s s := ⟨rfl, rfl, rfl, rfl, rfl⟩

theorem trans (h : Sends keep m bs s t) (h' : Sends keep n cs t u) : Sends keep (m + n) (bs ++ cs) s u where
  run := by rw [turns_add, h.run, andThen_next, h'.run]
  sent := by rw [sentIn_add h.run, h.sent, h'.sent]
  xchgs := by rw [h'.xchgs, h.xchgs, List.length_append, Nat.add_assoc]
  miso := by rw [h'.miso, h.miso, List.drop_drop, List.length_append]
  kept := h'.kept.trans h.kept

theorem cons {b : Byte} (h : Sends keep 1 [b] s t) (h' : Sends keep n bs t u) : Sends keep (n + 1) (b :: bs) s u :=
  Nat.add_comm 1 n ▸ h.trans h'

/-- What follows from what is kept is kept. -/
theorem map {β : Type} (f : α → β) (h : Sends keep n bs s t) : Sends (fun x => f (keep x)) n bs s t :=
  ⟨h.run, h.sent, h.xchgs, h.miso, congrArg f h.kept⟩

theorem field {β : Type} {keep : State → State} (h : Sends keep n bs s t) (φ : State → β)
    (hφ : ∀ x : State, φ (keep x) = φ x := by exact fun _ => rfl) : φ t = φ s :=
  field_of_kept h.kept φ hφ

/-- A step that exchanges no byte. -/
theorem silent (h : turn s = .next t) (hno : s.noExchange t) (hk : keep t = keep s) : Sends keep 1 [] s t where
  run := by rw [turns, h]; rfl
  sent := by rw [sentIn_of_next h, if_pos hno.xchgs]; rfl
  xchgs := hno.xchgs
  miso := hno.miso
  kept := hk

/-- A step that moves the sequencer to `u` and exchanges `o` there. -/
theorem exchange {o : Byte} (hb : s.busy = true) (hd : s.seq.done = true) (hmove : moveOn s = u)
    (hissue : issue u = .next (xchg o u)) (hk : keep (xchg o u) = keep s) : Sends keep 1 [o] s (xchg o u) := by
  have h : turn s = .next (xchg o u) := by rw [turn_at_rest hd hb, hmove, hissue]
  have hno : s.noExchange u := hmove ▸ noExchange_of_outside (moveOn_outside s)
  have hx : (xchg o u).xchgs = s.xchgs + 1 := congrArg (· + 1) hno.xchgs
  refine ⟨by rw [turns, h]; rfl, ?_, hx, ?_, hk⟩
  · rw [sentIn_of_next h, if_neg (by omega)]; rfl
  · rw [xchg_miso, hno.miso, List.length_singleton, List.drop_one]

/-- A run from the state in which the next primitive is due is a run from the state at rest before it. -/
theorem of_moveOn (hb : s.busy = true) (hd : s.seq.done = true) (hmove : moveOn s = u) (hk : keep u = keep s)
    (h : Sends keep (n + 1) bs u t) : Sends keep (n + 1) bs s t := by
  have hno : s.noExchange u := hmove ▸ noExchange_of_outside (moveOn_outside s)
  have hturn : turn s = turn u := hmove ▸ turn_moveOn hb hd
  refine ⟨?_, ?_, hno.xchgs ▸ h.xchgs, hno.miso ▸ h.miso, h.kept.trans hk⟩
  · rw [← h.run, turns, turns, hturn]
  · rw [← h.sent, sentIn, sentIn, hturn, hno.xchgs]

end Sends

/-! ### What an exchange keeps -/

/-- The state with what an exchange changes forgotten: the wire, and the position within the running procedure (R120). -/
def State.offWire (s : State) : State :=
  { s with mosi := 0xFF, rx := 0, miso := [], draws := 0, xchgs := 0, seq := ⟨s.seq.stage, .start, true⟩ }

/-- As `State.offWire`, and the registers that follow a payload forgotten too (R42, R45). -/
def State.offFrame (s : State) : State := { s.offWire with byteIdx := 0, crc16r := 0, mval := 0 }

theorem offFrame_of_offWire {s t : State} (h : t.offWire = s.offWire) : t.offFrame = s.offFrame :=
  field_of_kept h State.offFrame

theorem Sends.offFrame {n : Nat} {bs : List Byte} {s t : State} (h : Sends State.offWire n bs s t) :
    Sends State.offFrame n bs s t :=
  ⟨h.run, h.sent, h.xchgs, h.miso, offFrame_of_offWire h.kept⟩

/-- Where the sequencer only makes the exchange of point `p` due, one step is that exchange. -/
theorem exchange_due {s : State} {st : Stage} {q p : Point} {o : Byte} (hb : s.busy = true) (hseq : s.seq = ⟨st, q, true⟩)
    (hmove : moveOn s = s.due p) (hissue : issue (s.due p) = .next (xchg o (s.due p))) :
    ∃ t, Sends State.offWire 1 [o] s t ∧ t.seq = ⟨st, p, true⟩ :=
  ⟨_, .exchange hb (by rw [hseq]) hmove hissue rfl, by rw [xchg_seq, State.due_seq, hseq]⟩

theorem sameSession_of_offFrame {s t : State} (h : t.offFrame = s.offFrame) : s.sameSession t :=
  ⟨(congrArg State.lifecycle h :), (congrArg State.blockAddr h :), (congrArg State.crcOn h :), (congrArg State.legacy h :),
    (congrArg State.scValid h :), (congrArg State.scValue h :), (congrArg State.csdReg h :), (congrArg State.cs h :),
    (congrArg State.clkFast h :)⟩

theorem sameHostSide_of_offFrame {s t : State} (h : t.offFrame = s.offFrame) : s.sameHostSide t :=
  ⟨(congrArg State.cfg h :), (congrArg State.opcode h :), (congrArg State.sector h :), (congrArg State.count h :),
    (congrArg State.len h :), (congrArg State.latOp h :), (congrArg State.latSector h :), (congrArg State.latCount h :),
    (congrArg State.latLen h :), (congrArg State.inputs h :), (congrArg State.cd h :), (congrArg State.rdata h :)⟩

end Sys2Proof.Machine
end

section
/-! PROOFS. The exchanges of the command engine (O42): the rest of a packet, its gap or first poll, and the trailing bytes of an
extended response. -/

namespace Sys2Proof.Machine

/-! ### A packet -/

section Packet
variable {s : State} {st : Stage} {k : Nat} (hb : s.busy = true) (hseq : s.seq = ⟨st, .cmdTx k, true⟩)

include hseq in
theorem moveOn_packetByte :
    moveOn s = s.due (if k < 5 then .cmdTx (k + 1) else if st = .readBlocksStop then .stopGap else .poll 1) := by
  simp only [moveOn, advance, hseq, afterPacketByte]
  split_ifs <;> rfl

include hb hseq in
/-- Each of the next `n` steps sends the next byte of the packet, whatever the card returns (R150). -/
theorem packet_sent {n : Nat} (hn : k + n ≤ 5) :
    ∃ t, Sends State.offWire n ((List.range' (k + 1) n).map (packetByte s.pkt)) s t ∧ t.seq = ⟨st, .cmdTx (k + n), true⟩ := by
  induction n generalizing s k with
  | zero => exact ⟨s, .refl s, hseq⟩
  | succ n ih =>
    have hmove : moveOn s = s.due (.cmdTx (k + 1)) := by rw [moveOn_packetByte hseq, if_pos (by omega)]
    obtain ⟨u, hone, hu⟩ := exchange_due (o := packetByte s.pkt (k + 1)) hb hseq hmove rfl
    obtain ⟨t, hrest, ht⟩ := ih ((hone.field State.busy).trans hb) hu (by omega)
    rw [show u.pkt = s.pkt from hone.field State.pkt] at hrest
    exact ⟨t, hone.cons hrest, by rw [ht, Nat.add_right_comm]; rfl⟩

end Packet

/-- After the sixth byte 0xFF is exchanged, as the gap of CMD12 or as poll 1 (R152, R153). -/
theorem turn_packetEnd {s : State} {st : Stage} (hb : s.busy = true) (hseq : s.seq = ⟨st, .cmdTx 5, true⟩) :
    turn s = .next (xchg fillByte (s.due (if st = .readBlocksStop then .stopGap else .poll 1))) := by
  rw [turn_at_rest (by rw [hseq]) hb, moveOn_packetByte hseq, if_neg (by decide)]
  refine issue_fill rfl ?_
  split_ifs <;> rfl

/-! ### An extended response -/

/-- A trailing byte goes below the earlier ones (R65, R154). -/
theorem extWord_setWidth {n : Nat} (y : BitVec n) (b : Byte) : extWord (y.setWidth 32) b = (y ++ b).setWidth 32 := by
  refine BitVec.eq_of_getLsbD_eq fun i hi => ?_
  simp only [extWord, BitVec.getLsbD_or, BitVec.getLsbD_shiftLeft, BitVec.getLsbD_setWidth, BitVec.getLsbD_append, hi]
  by_cases h8 : i < 8
  · simp [h8]
  · simp [h8, show i - 8 < 32 by omega, BitVec.getLsbD_of_ge b i (Nat.le_of_not_lt h8)]

/-- Four trailing bytes are their word, most significant byte first (R65). -/
theorem extWord_four (b1 b2 b3 b4 : Byte) : [b1, b2, b3, b4].foldl extWord 0 = b1 ++ b2 ++ b3 ++ b4 := by
  have hfirst : extWord 0 b1 = b1.setWidth 32 := by simp [extWord]
  simp only [List.foldl_cons, List.foldl_nil, hfirst, extWord_setWidth]
  exact BitVec.setWidth_eq _

/-- The five bytes of an extended response, the status byte first (R154). -/
theorem extResponse_bytes (r b1 b2 b3 b4 : Byte) :
    (r ++ [b1, b2, b3, b4].foldl extWord 0 : BitVec 40) = r ++ b1 ++ b2 ++ b3 ++ b4 := by
  rw [extWord_four]
  refine BitVec.eq_of_getLsbD_eq fun i hi => ?_
  simp only [BitVec.getLsbD_append]
  grind

section Trailing
variable {s : State} {st : Stage}

/-- After a status byte of CMD8 or CMD58 comes the first trailing byte (R154). -/
theorem moveOn_status {k : Nat} (hseq : s.seq = ⟨st, .poll k, true⟩) (he : st.extended = true) (h7 : s.rx.getLsbD 7 = false) :
    moveOn s = State.due (.ext 1 0) { s with resp := s.rx } := by
  simp only [moveOn, hseq, statusReceived, if_pos h7, pollReturns]
  rw [if_pos ⟨h7, he⟩]

/-- After a trailing byte but the fourth comes the next one (R154). -/
theorem moveOn_trailing {k : Nat} {x : Word} (hseq : s.seq = ⟨st, .ext k x, true⟩) (hk : k < 4) :
    moveOn s = s.due (.ext (k + 1) (extWord x s.rx)) := by
  simp only [moveOn, hseq]
  rw [if_neg fun h => absurd h.1 (by omega)]
  simp only [advance, hseq]

/-- Trailing bytes come in as the card sends them, one exchange of 0xFF each, and are put below the earlier ones (R154). -/
theorem trailing_received {k : Nat} {x : Word} {bs r : List Byte} (hb : s.busy = true) (hseq : s.seq = ⟨st, .ext k x, true⟩)
    (hk : k + bs.length ≤ 4) (hm : s.miso = bs ++ r) :
    ∃ t y, Sends State.offWire bs.length (List.replicate bs.length 0xFF) s t ∧ t.seq = ⟨st, .ext (k + bs.length) y, true⟩ ∧
      extWord y t.rx = bs.foldl extWord (extWord x s.rx) := by
  induction bs generalizing s k x with
  | nil => exact ⟨s, x, .refl s, hseq, rfl⟩
  | cons b bs ih =>
    rw [List.length_cons] at hk ⊢
    let u := xchg fillByte (s.due (.ext (k + 1) (extWord x s.rx)))
    have hone : Sends State.offWire 1 [0xFF] s u :=
      .exchange hb (by rw [hseq]) (moveOn_trailing hseq (by omega)) (issue_fill rfl rfl) rfl
    have hu : u.seq = ⟨st, .ext (k + 1) (extWord x s.rx), true⟩ := by rw [xchg_seq, State.due_seq, hseq]
    have hrx : u.rx = b := by rw [xchg_rx]; simp only [State.nextMiso, State.due_miso, hm, List.cons_append]
    have hum : u.miso = bs ++ r := by rw [xchg_miso, State.due_miso, hm]; rfl
    obtain ⟨t, y, hrest, ht, hy⟩ := ih (s := u) hb hu (by omega) hum
    refine ⟨t, y, hone.cons hrest, ?_, by rw [hy, hrx]; rfl⟩
    rw [ht, Nat.add_right_comm, Nat.add_assoc k]

/-- The fourth trailing byte completes the response that is looked at, CMD8's or CMD58's (R154). -/
theorem received_extended {x : Word} (hseq : s.seq = ⟨st, .ext 4 x, true⟩)
    (hst : st = .initVcheck ∨ st = .initOcr ∨ st = .initCap) :
    received s = some (if st = .initVcheck then .extIfCond else .extOcr, .ext (s.resp ++ extWord x s.rx)) := by
  rw [received_extEnd (by rw [hseq]), hseq]
  rcases hst with rfl | rfl | rfl <;> rfl

end Trailing

/-- Settles O42: the packet by its bytes, then one exchange; the status byte, then the trailing bytes one by one. -/
theorem engineExchanges : Obligations.EngineExchanges := by
  refine ⟨fun st s hb hseq => ?_, fun st k b1 b2 b3 b4 r s hb hseq hst h7 hm => ?_⟩
  · obtain ⟨t, hrun, ht⟩ := packet_sent (n := 5) hb hseq (by decide)
    have hbt : t.busy = true := (hrun.field State.busy).trans hb
    refine ⟨t, hrun.run, ht, hrun.xchgs, hrun.miso, hrun.sent, sameSession_of_offFrame (offFrame_of_offWire hrun.kept),
      hrun.field State.hostbuf, hrun.field State.resp, _, turn_packetEnd hbt ht, rfl, ?_, ?_⟩
    · rw [xchg_xchgs, State.due_xchgs, hrun.xchgs]; rfl
    · rw [xchg_seq, State.due_seq, ht]
      split <;> rfl
  · have he : st.extended = true := by rcases hst with rfl | rfl | rfl <;> rfl
    let u := xchg fillByte (State.due (.ext 1 0) { s with resp := s.rx })
    have hfirst : Sends State.cs 1 [0xFF] s u :=
      .exchange hb (by rw [hseq]) (moveOn_status hseq he h7) (issue_fill rfl rfl) rfl
    have hu : u.seq = ⟨st, .ext 1 0, true⟩ := by rw [xchg_seq, State.due_seq]; simp only [hseq]
    have hrx : u.rx = b1 := by rw [xchg_rx]; simp only [State.nextMiso, State.due_miso, hm]
    have hum : u.miso = [b2, b3, b4] ++ r := by rw [xchg_miso, State.due_miso]; simp only [hm]; rfl
    obtain ⟨t, y, hrest, ht, hy⟩ := trailing_received (s := u) (bs := [b2, b3, b4]) hb hu (Nat.le_refl 4) hum
    have hall : Sends State.cs 4 [0xFF, 0xFF, 0xFF, 0xFF] s t := hfirst.cons (hrest.map State.cs)
    have hresp : t.resp = s.rx := hrest.field State.resp
    refine ⟨t, hall.run, hall.xchgs, hall.sent, by rw [hall.miso, hm]; rfl, ?_, hall.kept, hresp⟩
    rw [received_extended ht hst, hy, hrx, hresp]
    exact congrArg (fun w => some (_, Code.ext w)) (extResponse_bytes s.rx b1 b2 b3 b4)

end Sys2Proof.Machine
end

section
/-! PROOFS. A written sector frame (O44): the start token, the payload one byte after another, the CRC field and the data response. -/

namespace Sys2Proof.Machine

/-- Bytes `i` to `i + n - 1` of the block the frame belongs to, as HOSTBUF holds them (R221). -/
def State.payload (i n : Nat) (s : State) : List Byte :=
  (List.range' i n).map fun j => s.hostbuf.read (blockSize * s.block + j)

/-- CRC16R after absorbing `bs`, if the frame's CRC is computed (R136). -/
def State.crcAfter (bs : List Byte) (s : State) : BitVec 16 := if s.crcOn then bs.foldl crc16Byte s.crc16r else s.crc16r

theorem be16_length (v : BitVec 16) : (be16 v).length = 2 := rfl

theorem payload_of_offFrame {s t : State} (h : t.offFrame = s.offFrame) (i n : Nat) : t.payload i n = s.payload i n :=
  field_of_kept h (State.payload i n)

/-- The CRC of a payload goes on from the CRC of its first byte (R136). -/
theorem crcAfter_cons {s t : State} {b : Byte} (hon : t.crcOn = s.crcOn) (hcrc : t.crc16r = s.crcAfter [b]) (bs : List Byte) :
    t.crcAfter bs = s.crcAfter (b :: bs) := by
  unfold State.crcAfter at hcrc ⊢
  rw [hcrc, hon]
  split <;> rfl

/-- From the start of a frame CRC16R becomes the CRC of the payload alone (R134, R136). -/
theorem crcAfter_startFrame (bs : List Byte) (s : State) :
    ((startFrame s).due .dataGet).crcAfter bs = if s.crcOn then crc16 bs else s.crc16r := by
  simp only [State.crcAfter, State.due_crcOn, State.due_crc16r, startFrame]
  split <;> rfl

@[simp] theorem payload_length (i n : Nat) (s : State) : (s.payload i n).length = n := by
  rw [State.payload, List.length_map, List.length_range']

theorem moveOn_payloadTx {s : State} {st : Stage} (hseq : s.seq = ⟨st, .dataTx, true⟩) :
    moveOn s = if s.byteIdx + 1 < blockSize then State.due .dataGet { s with byteIdx := s.byteIdx + 1 }
      else s.due .crcTxHi := by
  simp only [moveOn, advance, hseq, afterPayloadTx]

theorem afterTokenTx_of_ne {s : State} (h : s.seq.stage ≠ .writeBlocksStop) :
    afterTokenTx s = (startFrame s).due .dataGet := by
  unfold afterTokenTx
  split
  · exact absurd ‹_› h
  · rfl

theorem State.startToken_cases (s : State) : s.startToken = tokenSingle ∨ s.startToken = tokenMulti := by
  unfold State.startToken
  split
  · exact .inr rfl
  · exact .inl rfl

/-- A start token that is due is sent (R93, R94). -/
theorem issue_token {s : State} {b : Byte} (hp : s.seq.point = .tokTx b) (hd : s.seq.done = false)
    (hb : b = tokenSingle ∨ b = tokenMulti) : issue s = .next (xchg b s) := by
  have hs : toSend s = some (.tokenSend, .byte b) := by simp only [toSend, hp]
  rcases hb with rfl | rfl
  · rw [issue_decoded (i := .tokenStartSingle) hs (by decide)]
    simp only [exec, execTokenStartSingle, hd]
    rfl
  · rw [issue_decoded (i := .tokenStartMultiWrite) hs (by decide)]
    rfl

section Written
variable {s : State} {st : Stage} (hb : s.busy = true)
include hb

/-- A payload byte that is due is read from HOSTBUF, sent and absorbed (R225). -/
theorem payloadByte_sent (hseq : s.seq = ⟨st, .dataGet, false⟩) (ha : s.payloadAddr < s.cfg.hostbufSize) :
    ∃ t, Sends State.offFrame 2 [s.hostbuf.read s.payloadAddr] s t ∧ t.seq = ⟨st, .dataTx, true⟩ ∧ t.byteIdx = s.byteIdx ∧
      t.crc16r = s.crcAfter [s.hostbuf.read s.payloadAddr] := by
  let u : State := { s with mval := s.hostbuf.read s.payloadAddr, seq := ⟨st, .dataGet, true⟩ }
  have hread : turn s = .next u := by
    rw [turn_due (by rw [hseq]) hb, issue_perform (by simp only [toSend, hseq])]
    simp only [perform, hseq]
    rw [memRead_eq_next, hseq]
    exact ⟨ha, rfl⟩
  have hget : Sends State.offFrame 1 [] s u :=
    .silent hread ⟨rfl, rfl, rfl⟩ (by simp only [State.offFrame, State.offWire, u, hseq])
  have hsend : Sends State.offFrame 1 [s.hostbuf.read s.payloadAddr] u (xchg u.mval ((absorb u.mval u).due .dataTx)) :=
    .exchange hb rfl rfl rfl rfl
  exact ⟨_, hget.trans hsend, rfl, rfl, rfl⟩

/-- From a due payload byte on, all the remaining ones are sent (R225). -/
theorem payload_sent {n : Nat} (hseq : s.seq = ⟨st, .dataGet, false⟩) (hlen : s.byteIdx + (n + 1) = blockSize)
    (hfits : blockSize * s.block + blockSize ≤ s.cfg.hostbufSize) :
    ∃ t, Sends State.offFrame (2 * (n + 1)) (s.payload s.byteIdx (n + 1)) s t ∧ t.seq = ⟨st, .dataTx, true⟩ ∧
      t.byteIdx + 1 = blockSize ∧ t.crc16r = s.crcAfter (s.payload s.byteIdx (n + 1)) := by
  induction n generalizing s with
  | zero =>
    obtain ⟨t, hone, ht, hidx, hcrc⟩ := payloadByte_sent hb hseq (by unfold State.payloadAddr; omega)
    exact ⟨t, hone, ht, by rw [hidx, hlen], hcrc⟩
  | succ n ih =>
    obtain ⟨t, hone, ht, hidx, hcrc⟩ := payloadByte_sent hb hseq (by unfold State.payloadAddr; omega)
    let u := State.due .dataGet { t with byteIdx := t.byteIdx + 1 }
    have hu : u.offFrame = s.offFrame := hone.kept
    have hon : u.crcOn = s.crcOn := field_of_kept hu State.crcOn
    have hbt : t.busy = true := (field_of_kept hu State.busy).trans hb
    have hmove : moveOn t = u := by rw [moveOn_payloadTx ht, if_pos (by omega)]
    have huseq : u.seq = ⟨st, .dataGet, false⟩ := by rw [State.due_seq]; simp only [ht]
    have huidx : u.byteIdx = s.byteIdx + 1 := congrArg (· + 1) hidx
    have hufits : blockSize * u.block + blockSize ≤ u.cfg.hostbufSize := by
      rw [show u.block = s.block from field_of_kept hu State.block,
        show u.cfg = s.cfg from field_of_kept hu State.cfg]
      exact hfits
    obtain ⟨w, hrest, hw, hlast, hwcrc⟩ := ih (s := u) hbt huseq (by omega) hufits
    rw [huidx, payload_of_offFrame hu] at hrest hwcrc
    refine ⟨w, ?_, hw, hlast, hwcrc.trans (crcAfter_cons (t := u) hon hcrc _)⟩
    have hboth := hone.trans (hrest.of_moveOn hbt (by rw [ht]) hmove rfl)
    rwa [Nat.add_comm 2] at hboth

/-- After the last payload byte the CRC field goes out, and 0xFF for the data response (R225). -/
theorem crcField_sent (hseq : s.seq = ⟨st, .dataTx, true⟩) (hlast : s.byteIdx + 1 = blockSize) :
    ∃ t, Sends State.offFrame 3 (be16 s.txCrc ++ [0xFF]) s t ∧ t.seq = ⟨st, .dresp, true⟩ := by
  have hmove : moveOn s = s.due .crcTxHi := by rw [moveOn_payloadTx hseq, if_neg (by omega)]
  obtain ⟨s₁, hhi, h₁⟩ := exchange_due (o := s.txCrc.extractLsb' 8 8) hb hseq hmove rfl
  have hb₁ : s₁.busy = true := (hhi.field State.busy).trans hb
  obtain ⟨s₂, hlo, h₂⟩ :=
    exchange_due (p := .crcTxLo) (o := s₁.txCrc.extractLsb' 0 8) hb₁ h₁ (by simp only [moveOn, advance, h₁]) rfl
  rw [show s₁.txCrc = s.txCrc from hhi.field State.txCrc] at hlo
  have hb₂ : s₂.busy = true := (hlo.field State.busy).trans hb₁
  obtain ⟨t, hresp, ht⟩ := exchange_due (p := .dresp) hb₂ h₂ (by simp only [moveOn, advance, h₂]) (issue_fill rfl rfl)
  exact ⟨t, (hhi.cons (hlo.cons hresp)).offFrame, ht⟩

/-- After the pad byte the frame's start token goes out (R225). -/
theorem startToken_sent (hseq : s.seq = ⟨st, .pad, true⟩) :
    ∃ t, Sends State.offFrame 1 [s.startToken] s t ∧ t.seq = ⟨st, .tokTx s.startToken, true⟩ := by
  obtain ⟨t, hone, ht⟩ := exchange_due hb hseq (by simp only [moveOn, advance, hseq]) (issue_token rfl rfl s.startToken_cases)
  exact ⟨t, hone.offFrame, ht⟩

/-- After the start token the payload and its CRC field go out: CRC16R starts the frame at 0, so that the field is the CRC of
exactly these bytes, or the wildcard (R225). -/
theorem payload_crcField_sent {b : Byte} (hseq : s.seq = ⟨st, .tokTx b, true⟩) (hst : st ≠ .writeBlocksStop)
    (hfits : blockSize * s.block + blockSize ≤ s.cfg.hostbufSize) :
    ∃ t, Sends State.offFrame (2 * 512 + 3)
        (s.payload 0 blockSize ++ (be16 (if s.crcOn then crc16 (s.payload 0 blockSize) else 0xFFFF) ++ [0xFF])) s t ∧
      t.seq = ⟨st, .dresp, true⟩ := by
  let u := (startFrame s).due .dataGet
  have hmove : moveOn s = u := by
    simp only [moveOn, advance, hseq]
    exact afterTokenTx_of_ne (by rw [hseq]; exact hst)
  have huseq : u.seq = ⟨st, .dataGet, false⟩ := by rw [State.due_seq]; simp only [startFrame, hseq]
  obtain ⟨t, hpayload, ht, hlast, hcrc⟩ := payload_sent (s := u) (n := 511) hb huseq rfl hfits
  have hon : t.crcOn = s.crcOn := hpayload.field State.crcOn
  have hbt : t.busy = true := (hpayload.field State.busy).trans hb
  have hbytes : u.payload u.byteIdx (511 + 1) = s.payload 0 blockSize := rfl
  rw [hbytes] at hpayload hcrc
  obtain ⟨w, htrailer, hw⟩ := crcField_sent hbt ht hlast
  have hfield : t.txCrc = if s.crcOn then crc16 (s.payload 0 blockSize) else 0xFFFF := by
    rw [State.txCrc, hon, hcrc, crcAfter_startFrame]
    split <;> rfl
  rw [hfield] at htrailer
  exact ⟨w, (hpayload.of_moveOn hb (by rw [hseq]) hmove rfl).trans htrailer, hw⟩

end Written

/-- A frame is written only where its block fits HOSTBUF (R220, R221). -/
theorem writtenBlock_fits {s : State} {st : Stage} (hi : s.Inv) (hb : s.busy = true) (hseq : s.seq = ⟨st, .pad, true⟩)
    (hst : st = .writeBlockData ∨ st = .writeBlocksData) : blockSize * s.block + blockSize ≤ s.cfg.hostbufSize := by
  obtain ⟨-, hpos⟩ := hi.position hb
  rcases hst with rfl | rfl
  · have hsize := hi.config
    simp only [Config.wf, Bool.and_eq_true, decide_eq_true_eq] at hsize
    simp only [State.block, hseq, blockSize]
    omega
  · simp only [State.positionOk, hseq] at hpos
    obtain ⟨-, -, ⟨-, hmulti⟩, hidx⟩ := hpos
    simp only [State.block, hseq, blockSize]
    omega

theorem payload_eq_range {s : State} {st : Stage} (hseq : s.seq = ⟨st, .pad, true⟩)
    (hst : st = .writeBlockData ∨ st = .writeBlocksData) :
    s.payload 0 blockSize =
      (List.range 512).map fun i => s.hostbuf.read (512 * (if st = .writeBlocksData then s.blkIdx else 0) + i) := by
  have hblock : s.block = if st = .writeBlocksData then s.blkIdx else 0 := by
    rcases hst with rfl | rfl <;> simp only [State.block, hseq] <;> rfl
  rw [State.payload, hblock, List.range_eq_range']
  rfl

/-- Settles O44: the token, then the payload and its CRC field, with the one exchange of the data response. -/
theorem sectorFrameSent : Obligations.SectorFrameSent := by
  intro st s hi hb hseq hst
  have hfits := writtenBlock_fits hi hb hseq hst
  obtain ⟨u, htoken, hu⟩ := startToken_sent hb hseq
  have hstop : st ≠ .writeBlocksStop := by rcases hst with rfl | rfl <;> decide
  have htokenByte : s.startToken = if st = .writeBlocksData then 0xFC else 0xFE := by
    rcases hst with rfl | rfl <;> simp only [State.startToken, hseq] <;> rfl
  obtain ⟨t, hrest, ht⟩ := payload_crcField_sent ((htoken.field State.busy).trans hb) hu hstop
    (by rw [show u.block = s.block from htoken.field State.block,
      show u.cfg = s.cfg from htoken.field State.cfg]; exact hfits)
  rw [payload_of_offFrame htoken.kept,
    show u.crcOn = s.crcOn from htoken.field State.crcOn] at hrest
  have hall := htoken.trans hrest
  rw [← Nat.add_assoc] at hall
  refine ⟨t, s.payload 0 blockSize, payload_eq_range hseq hst, hall.run, ht, ?_, ?_, hall.field State.hostbuf,
    sameSession_of_offFrame hall.kept, sameHostSide_of_offFrame hall.kept⟩
  · rw [hall.xchgs]
    simp only [List.length_append, List.length_singleton, payload_length, be16_length, blockSize]
  · rw [← htokenByte, hall.sent]
    simp only [List.append_assoc, List.cons_append, List.nil_append]

end Sys2Proof.Machine
end

section
/-! PROOFS. The decoder against the encoder, both ways (O1, O2), and the words of the tables (O3). -/

namespace Sys2Proof
open Machine

/-! ### Decoding an encoded item (R84-R98) -/

/-- The field above the low `n` bits of a word put together from its fields, `a` bits up. -/
theorem extract_append_high {m n : Nat} (x : BitVec m) (y : BitVec n) (a k : Nat) :
    (x ++ y).extractLsb' (a + n) k = x.extractLsb' a k := by
  rw [BitVec.extractLsb'_append_eq_of_le (by omega), Nat.add_sub_cancel]

/-- The low field of a word put together from its fields. -/
theorem extract_append_low {m n : Nat} (x : BitVec m) (y : BitVec n) : (x ++ y).extractLsb' 0 n = y :=
  (BitVec.extractLsb'_append_eq_of_add_le (by omega)).trans BitVec.extractLsb'_eq_self

/-- A status byte has bit 7 clear (R90). -/
theorem status_bit7 (status : BitVec 7) : (0#1 ++ status : Byte).getLsbD 7 = false := by
  revert status; decide

/-- CMD8's response, its four trailing bytes as one word (R92). -/
theorem ifCondResponse_eq (status : BitVec 7) (n : BitVec 4) (z : BitVec 16) (v : BitVec 4) (k : BitVec 8) :
    (0#1 ++ status ++ n ++ z ++ v ++ k : BitVec 40) = (0#1 ++ status : Byte) ++ (n ++ z ++ v ++ k : Word) := by
  generalize (0#1 ++ status : Byte) = r
  have h1 : r ++ n ++ z = r ++ (n ++ z) := BitVec.append_assoc
  have h2 : r ++ (n ++ z) ++ v = r ++ (n ++ z ++ v) := BitVec.append_assoc
  have h3 : r ++ (n ++ z ++ v) ++ k = r ++ (n ++ z ++ v ++ k) := BitVec.append_assoc
  exact (congrArg (· ++ v ++ k) h1).trans ((congrArg (· ++ k) h2).trans h3)

theorem decodeOcr_fields (status : BitVec 7) (ocr : Word) :
    decodeOcr (0#1 ++ status ++ ocr) = .ok (.resp3 status ocr) := by
  have h39 : (0#1 ++ status ++ ocr : BitVec 40).getLsbD 39 = false :=
    (extResponse_getLsbD (0#1 ++ status) ocr 39).trans (status_bit7 status)
  have hstatus : (0#1 ++ status ++ ocr : BitVec 40).extractLsb' 32 7 = status :=
    (extract_append_high (0#1 ++ status) ocr 0 7).trans (extract_append_low 0#1 status)
  have hocr : (0#1 ++ status ++ ocr : BitVec 40).extractLsb' 0 32 = ocr := extract_append_low (0#1 ++ status) ocr
  simp only [decodeOcr, h39, hstatus, hocr, if_true]

theorem decodeIfCond_fields (status : BitVec 7) (n : BitVec 4) (z : BitVec 16) (v : BitVec 4) (k : BitVec 8) :
    decodeIfCond (0#1 ++ status ++ n ++ z ++ v ++ k) = .ok (.resp7 status n z v k) := by
  have h39 : (0#1 ++ status ++ n ++ z ++ v ++ k : BitVec 40).getLsbD 39 = false := by
    rw [ifCondResponse_eq]
    exact (extResponse_getLsbD (0#1 ++ status) _ 39).trans (status_bit7 status)
  have hstatus : (0#1 ++ status ++ n ++ z ++ v ++ k : BitVec 40).extractLsb' 32 7 = status := by
    rw [ifCondResponse_eq]
    exact (extract_append_high (0#1 ++ status) (n ++ z ++ v ++ k) 0 7).trans (extract_append_low 0#1 status)
  have hn : (0#1 ++ status ++ n ++ z ++ v ++ k : BitVec 40).extractLsb' 28 4 = n :=
    calc _ = (0#1 ++ status ++ n ++ z ++ v).extractLsb' 20 4 := extract_append_high _ k 20 4
      _ = (0#1 ++ status ++ n ++ z).extractLsb' 16 4 := extract_append_high _ v 16 4
      _ = (0#1 ++ status ++ n).extractLsb' 0 4 := extract_append_high _ z 0 4
      _ = n := extract_append_low _ n
  have hz : (0#1 ++ status ++ n ++ z ++ v ++ k : BitVec 40).extractLsb' 12 16 = z :=
    calc _ = (0#1 ++ status ++ n ++ z ++ v).extractLsb' 4 16 := extract_append_high _ k 4 16
      _ = (0#1 ++ status ++ n ++ z).extractLsb' 0 16 := extract_append_high _ v 0 16
      _ = z := extract_append_low _ z
  have hv : (0#1 ++ status ++ n ++ z ++ v ++ k : BitVec 40).extractLsb' 8 4 = v :=
    (extract_append_high _ k 0 4).trans (extract_append_low _ v)
  have hk : (0#1 ++ status ++ n ++ z ++ v ++ k : BitVec 40).extractLsb' 0 8 = k := extract_append_low _ k
  simp only [decodeIfCond, h39, hstatus, hn, hz, hv, hk, if_true]

theorem decodeTokenWait_readError {e : BitVec 4} (h : e ≠ 0) : decodeTokenWait (0#4 ++ e) = .ok (.tokenReadError e) := by
  revert e; decide

theorem decodeStatus_flags (p a s c l r i : Bool) :
    decodeStatus (statusByte p a s c l r i) = .ok (.resp1 p a s c l r i) := by
  revert p a s c l r i; decide

/-- Settles O1: a host opcode, a token and a bus byte by their one value; a packet by its fields (`decodePacket_packet`) and its
row of R86; a response by its fields. Only the read-error token needs well-formedness. -/
theorem decodeInvertsEncode : Obligations.DecodeInvertsEncode := by
  intro i hwf
  cases i
  case cmd0 | cmd8 | cmd9 | cmd12 | cmd16 | cmd17 | cmd18 | cmd24 | cmd25 | cmd55 | cmd58 | cmd59 | acmd23 | acmd41 |
      acmd41Legacy => exact decodePacket_packet ..
  case drespAccepted x => revert x; decide
  case drespCrcError x => revert x; decide
  case drespWriteError x => revert x; decide
  case tokenReadError e => exact decodeTokenWait_readError (by simpa [Instr.wf] using hwf)
  case resp1 => exact decodeStatus_flags ..
  case resp3 => exact decodeOcr_fields ..
  case resp7 => exact decodeIfCond_fields ..
  all_goals rfl

/-! ### Encoding a decoded word -/

theorem encode_of_decodeStatus {b : Byte} {i : Instr} (h : decodeStatus b = .ok i) : encode i = .byte b := by
  unfold decodeStatus at h
  split_ifs at h with h7 hF
  · cases h; exact congrArg Code.byte (statusOf_eq_self h7)
  · cases h; rw [hF]; rfl

/-- A five-byte response is its first byte, whose bit 7 is clear, and its trailing word (R91, R92). -/
theorem response_fields {w : BitVec 40} (h : w.getLsbD 39 = false) :
    0#1 ++ w.extractLsb' 32 7 ++ w.extractLsb' 0 32 = w := by
  have htop : 0#1 = w.extractLsb' 39 1 := BitVec.eq_of_getLsbD_eq fun i hi => by
    obtain rfl : i = 0 := by omega
    exact (by simpa using h.symm)
  have hfirst : 0#1 ++ w.extractLsb' 32 7 = w.extractLsb' 32 8 := by
    rw [htop]; exact BitVec.extractLsb'_append_extractLsb'_eq_extractLsb' rfl
  rw [hfirst]
  exact (BitVec.extractLsb'_append_extractLsb'_eq_extractLsb' rfl).trans BitVec.extractLsb'_eq_self

theorem encode_of_decodeOcr {w : BitVec 40} {i : Instr} (h : decodeOcr w = .ok i) : encode i = .ext w := by
  unfold decodeOcr at h
  split_ifs at h with h39
  cases h
  exact congrArg Code.ext (response_fields h39)

theorem encode_of_decodeIfCond {w : BitVec 40} {i : Instr} (h : decodeIfCond w = .ok i) : encode i = .ext w := by
  unfold decodeIfCond at h
  split_ifs at h with h39
  cases h
  refine congrArg Code.ext ((ifCondResponse_eq ..).trans ?_)
  rw [ifCondFields_append]
  exact response_fields h39

theorem encode_of_decodeTokenWait {b : Byte} {i : Instr} (h : decodeTokenWait b = .ok i) : encode i = .byte b := by
  unfold decodeTokenWait at h
  split_ifs at h with hE hF hlow
  · cases h; rw [hE]; rfl
  · cases h; rw [hF]; rfl
  · cases h
    have hb : 0#4 ++ b.extractLsb' 0 4 = b := by
      rw [← show b.extractLsb' 4 4 = 0#4 from hlow.1]
      exact (BitVec.extractLsb'_append_extractLsb'_eq_extractLsb' rfl).trans BitVec.extractLsb'_eq_self
    exact congrArg Code.byte hb

theorem encode_of_decodeDataResponse {b : Byte} {i : Instr} (h : decodeDataResponse b = .ok i) : encode i = .byte b := by
  have hbits {c : BitVec 5} (hc : b.extractLsb' 0 5 = c) : b.extractLsb' 5 3 ++ c = b := by
    rw [← hc]; exact drespBits_eq_self b
  unfold decodeDataResponse at h
  split_ifs at h with h5 hB hD
  · cases h; exact congrArg Code.byte (hbits h5)
  · cases h; exact congrArg Code.byte (hbits hB)
  · cases h; exact congrArg Code.byte (hbits hD)

theorem encode_of_decodeBusyWait {b : Byte} {i : Instr} (h : decodeBusyWait b = .ok i) : encode i = .byte b := by
  unfold decodeBusyWait at h
  split_ifs at h with hF h0
  · cases h; rw [hF]; rfl
  · cases h; rw [h0]; rfl

theorem encode_of_decodeTokenSend {b : Byte} {i : Instr} (h : decodeTokenSend b = .ok i) : encode i = .byte b := by
  unfold decodeTokenSend at h
  split_ifs at h with hE hC hD
  · cases h; rw [hE]; rfl
  · cases h; rw [hC]; rfl
  · cases h; rw [hD]; rfl

theorem encode_of_decodeFillSend {b : Byte} {i : Instr} (h : decodeFillSend b = .ok i) : encode i = .byte b := by
  unfold decodeFillSend at h
  split_ifs at h with hF
  cases h; rw [hF]; rfl

/-! ### The host opcode map (R81-R83) -/

/-- A mask of the low `n` bits keeps those bits. -/
theorem and_mask_eq (w : Word) {n : Nat} (hn : n ≤ 32) :
    w &&& BitVec.ofNat 32 (2 ^ n - 1) = (w.extractLsb' 0 n).setWidth 32 := by
  have hmask : (2 ^ n - 1) % 2 ^ 32 = 2 ^ n - 1 :=
    Nat.mod_eq_of_lt (Nat.lt_of_lt_of_le (Nat.sub_one_lt (by simp)) (Nat.pow_le_pow_right (by decide) hn))
  apply BitVec.eq_of_toNat_eq
  rw [BitVec.toNat_and, BitVec.toNat_ofNat, hmask, BitVec.toNat_setWidth_of_le hn, BitVec.extractLsb'_toNat,
    Nat.shiftRight_zero, Nat.and_two_pow_sub_one_eq_mod]

/-- Bits [7:0] of a `CTRL` word (R81). -/
theorem ctrl_and_eq (w : Word) : w &&& 0xFF = (w.extractLsb' 0 8).setWidth 32 := and_mask_eq w (n := 8) (by decide)

theorem encode_of_hostOperation : ∀ x ∈ hostOperations, encode x.1 = .ctrl (x.2.1.setWidth 32) := by decide

/-- Exactly the opcodes 0x00 and 0x0D-0xFF are reserved (R83). -/
theorem decodeHost_reserved_iff (op : BitVec 8) :
    decodeHost (op.setWidth 32) = .error .reservedOpcode ↔ op.setWidth 32 = 0#32 ∨ 0x0D ≤ (op.setWidth 32).toNat := by
  revert op; decide

/-- Settles O2: one lemma per decoder says that what it reads is the encoding of the result; the host map over its low byte. -/
theorem decodingIsLossless : Obligations.DecodingIsLossless := by
  refine ⟨⟨fun c w i hc h => ?_, fun w i h => ?_⟩, by decide, fun w => ?_, fun w => ?_⟩
  · unfold decode at h
    split at h
    case h_1 => exact absurd rfl hc
    case h_2 => exact encode_of_decodePacket h
    case h_3 => exact encode_of_decodeStatus h
    case h_4 => exact encode_of_decodeOcr h
    case h_5 => exact encode_of_decodeIfCond h
    case h_6 => exact encode_of_decodeTokenWait h
    case h_7 => exact encode_of_decodeDataResponse h
    case h_8 => exact encode_of_decodeBusyWait h
    case h_9 => exact encode_of_decodeTokenSend h
    case h_10 => exact encode_of_decodeFillSend h
    case h_11 => cases h
  · rw [ctrl_and_eq]
    exact encode_of_hostOperation _ (decodeHost_ok _ i ((decodeHost_low w).symm.trans h))
  · rw [ctrl_and_eq]
    exact decodeHost_low w
  · rw [ctrl_and_eq]
    exact (iff_of_eq (congrArg (· = _) (decodeHost_low w))).trans (decodeHost_reserved_iff _)

/-- Settles O3: the decoder computes each word's reading. -/
theorem specWordsDecode : Obligations.SpecWordsDecode := by
  unfold Obligations.SpecWordsDecode
  decide +kernel

end Sys2Proof
end

section
/-! PROOFS. The closed command set (O5): wherever a move of the sequencer makes the first byte of a packet due, the packet is the
framed command of its stage (`State.packetDue`), one short lemma for each procedure step that sends a command. -/

namespace Sys2Proof.Machine

/-! ### The packet about to be sent -/

/-- The loaded packet is the stage's framed command, and the sequencer stood at `q` as the commands after CMD55 need it (R87,
R175). -/
structure State.Framed (q : Seq) (u : State) : Prop where
  packet : ∃ idx arg, u.commandOf = some (idx, arg) ∧ u.pkt = frame u.cfg.crcEnable idx arg
  opCond : u.seq.stage = .initOpCond → q.stage = .initApp ∧ ∃ k, q.point = .poll k
  eraseCount : u.seq.stage = .preEraseCount → q.stage = .preErasePrefix ∧ ∃ k, q.point = .poll k
  crcEnable : u.seq.stage = .initCrcen → u.cfg.crcEnable = true

/-- A packet is about to be sent only when it is the stage's command. -/
def State.packetDue (q : Seq) (u : State) : Prop := u.seq.point = .cmdTx 0 → u.Framed q

section Sends
variable {q : Seq} {s : State}

/-- Elsewhere than at a packet's first byte nothing is asked. -/
theorem packetDue_of_ne {u : State} (h : u.seq.point ≠ .cmdTx 0) : u.packetDue q := fun hp => absurd hp h

theorem due_packetDue {p : Point} (h : p ≠ .cmdTx 0) : (s.due p).packetDue q := packetDue_of_ne h

theorem enter_packetDue {st : Stage} {p : Point} (h : p ≠ .cmdTx 0) : (s.enter st p).packetDue q := packetDue_of_ne h

theorem noSuchPosition_packetDue : (noSuchPosition s).packetDue q := due_packetDue Point.noConfusion

theorem raises_packetDue (e : Err) : (raises e s).packetDue q := due_packetDue Point.noConfusion

theorem returns_packetDue (v : Word) : (returns v s).packetDue q := due_packetDue Point.noConfusion

theorem completes_packetDue (e : Err) : (completes e s).packetDue q := due_packetDue Point.noConfusion

theorem beginTeardown_packetDue (k : AfterTeardown) : (beginTeardown k s).packetDue q := enter_packetDue Point.noConfusion

theorem packetDue_ite {c : Prop} [Decidable c] {u v : State} (hu : u.packetDue q) (hv : v.packetDue q) :
    (if c then u else v).packetDue q := by
  split_ifs <;> assumption

/-- A command that may follow any position. -/
theorem sendCommand_packetDue {st : Stage} {idx : BitVec 6} {arg : Word}
    (hst : st ∉ [Stage.initOpCond, .preEraseCount, .initCrcen])
    (hcmd : (sendCommand st idx arg s).commandOf = some (idx, arg)) : (sendCommand st idx arg s).packetDue q := by
  simp only [List.mem_cons, List.not_mem_nil, or_false, not_or] at hst
  exact fun _ => ⟨⟨idx, arg, hcmd, rfl⟩, fun h => absurd h hst.1, fun h => absurd h hst.2.1, fun h => absurd h hst.2.2⟩

/-! ### INITIALIZE -/

theorem beginReset_packetDue : (beginReset s).packetDue q := sendCommand_packetDue (by decide) rfl

theorem afterReset_packetDue : (afterReset s).packetDue q :=
  packetDue_ite (sendCommand_packetDue (by decide) rfl)
    (packetDue_ite (sendCommand_packetDue (by decide) rfl) (beginTeardown_packetDue _))

theorem beginCrcEnable_packetDue : (beginCrcEnable s).packetDue q := by
  unfold beginCrcEnable
  split_ifs with h
  · exact fun _ => ⟨⟨59, 1, rfl, rfl⟩, Stage.noConfusion, Stage.noConfusion, fun _ => h⟩
  · exact sendCommand_packetDue (by decide) rfl

theorem afterVcheck_packetDue : (afterVcheck s).packetDue q := by
  unfold afterVcheck
  split
  · exact beginTeardown_packetDue _
  · exact beginCrcEnable_packetDue

theorem requireInit_packetDue {e : Err} {k : State → State} (hk : (k s).packetDue q) : (requireInit e k s).packetDue q :=
  packetDue_ite hk (beginTeardown_packetDue _)

theorem afterOcr_packetDue : (afterOcr s).packetDue q :=
  requireInit_packetDue (packetDue_ite (beginTeardown_packetDue _) (enter_packetDue Point.noConfusion))

theorem afterApp_packetDue (hst : q.stage = .initApp) (hp : ∃ k, q.point = .poll k) : (afterApp s).packetDue q :=
  requireInit_packetDue fun _ => ⟨⟨41, s.opCondArg, rfl, rfl⟩, fun _ => ⟨hst, hp⟩, Stage.noConfusion, Stage.noConfusion⟩

theorem afterOpCond_packetDue : (afterOpCond s).packetDue q :=
  requireInit_packetDue (packetDue_ite (sendCommand_packetDue (by decide) rfl) (due_packetDue Point.noConfusion))

theorem afterOpCheck_packetDue : (afterOpCheck s).packetDue q :=
  packetDue_ite (beginTeardown_packetDue _) (sendCommand_packetDue (by decide) rfl)

theorem afterCap_packetDue : (afterCap s).packetDue q :=
  requireInit_packetDue (packetDue_ite (enter_packetDue Point.noConfusion) (sendCommand_packetDue (by decide) rfl))

theorem afterBlkLen_packetDue : (afterBlkLen s).packetDue q := requireInit_packetDue (enter_packetDue Point.noConfusion)

/-! ### The transfers -/

theorem retryOrRaise_packetDue (e : Err) : (retryOrRaise e s).packetDue q :=
  packetDue_ite (sendCommand_packetDue (by decide) rfl) (raises_packetDue e)

theorem beginReadBlock_packetDue : (beginReadBlock s).packetDue q := sendCommand_packetDue (by decide) rfl

theorem beginWriteBlock_packetDue : (beginWriteBlock s).packetDue q := sendCommand_packetDue (by decide) rfl

theorem stopRead_packetDue : (stopRead s).packetDue q := sendCommand_packetDue (by decide) rfl

theorem stopWrite_packetDue : (stopWrite s).packetDue q := enter_packetDue Point.noConfusion

theorem beginWriteMulti_packetDue : (beginWriteMulti s).packetDue q := sendCommand_packetDue (by decide) rfl

theorem afterReadBlockCmd_packetDue : (afterReadBlockCmd s).packetDue q :=
  packetDue_ite (enter_packetDue Point.noConfusion) (retryOrRaise_packetDue _)

theorem afterReadBlockData_packetDue (e : Err) : (afterReadBlockData e s).packetDue q :=
  packetDue_ite (returns_packetDue 0) (retryOrRaise_packetDue e)

theorem afterWriteBlockCmd_packetDue : (afterWriteBlockCmd s).packetDue q :=
  packetDue_ite (enter_packetDue Point.noConfusion) (raises_packetDue _)

theorem beginReadBlocks_packetDue : (beginReadBlocks s).packetDue q :=
  packetDue_ite beginReadBlock_packetDue (sendCommand_packetDue (by decide) rfl)

theorem afterReadBlocksCmd_packetDue : (afterReadBlocksCmd s).packetDue q :=
  packetDue_ite (enter_packetDue Point.noConfusion) stopRead_packetDue

theorem afterReadBlocksData_packetDue (e : Err) : (afterReadBlocksData e s).packetDue q :=
  packetDue_ite (packetDue_ite (due_packetDue Point.noConfusion) stopRead_packetDue) stopRead_packetDue

theorem beginWriteBlocks_packetDue : (beginWriteBlocks s).packetDue q :=
  packetDue_ite beginWriteBlock_packetDue (packetDue_ite (sendCommand_packetDue (by decide) rfl) beginWriteMulti_packetDue)

theorem afterPreErasePrefix_packetDue (hst : q.stage = .preErasePrefix) (hp : ∃ k, q.point = .poll k) :
    (afterPreErasePrefix s).packetDue q :=
  packetDue_ite (fun _ => ⟨⟨23, s.eraseArg, rfl, rfl⟩, Stage.noConfusion, fun _ => ⟨hst, hp⟩, Stage.noConfusion⟩)
    beginWriteMulti_packetDue

theorem afterWriteBlocksCmd_packetDue : (afterWriteBlocksCmd s).packetDue q :=
  packetDue_ite (enter_packetDue Point.noConfusion) stopWrite_packetDue

theorem afterWriteBlocksData_packetDue (e : Err) : (afterWriteBlocksData e s).packetDue q :=
  packetDue_ite (packetDue_ite (enter_packetDue Point.noConfusion) stopWrite_packetDue) stopWrite_packetDue

theorem beginSectorCount_packetDue : (beginSectorCount s).packetDue q :=
  packetDue_ite (returns_packetDue _) (sendCommand_packetDue (by decide) rfl)

theorem afterSectorCountCmd_packetDue : (afterSectorCountCmd s).packetDue q :=
  packetDue_ite (enter_packetDue Point.noConfusion) (raises_packetDue _)

theorem afterSectorCountData_packetDue (e : Err) : (afterSectorCountData e s).packetDue q := by
  refine packetDue_ite ?_ (raises_packetDue e)
  split
  · exact returns_packetDue _
  · exact raises_packetDue _

/-! ### Preconditions, commands, frames and busy waits -/

theorem preSession_packetDue {k : State → State} (hk : (k s).packetDue q) : (preSession k s).packetDue q :=
  packetDue_ite (beginTeardown_packetDue _) (packetDue_ite (raises_packetDue _) hk)

theorem preTransfer_packetDue {k : State → State} (hk : (k s).packetDue q) : (preTransfer k s).packetDue q :=
  preSession_packetDue (packetDue_ite hk (raises_packetDue _))

theorem afterPresent_packetDue : (afterPresent s).packetDue q := by
  unfold afterPresent
  split
  · exact packetDue_ite (returns_packetDue 1) (beginTeardown_packetDue _)
  · exact packetDue_ite (due_packetDue Point.noConfusion) (beginTeardown_packetDue _)
  · exact preTransfer_packetDue beginReadBlock_packetDue
  · exact preTransfer_packetDue beginWriteBlock_packetDue
  · exact preTransfer_packetDue beginReadBlocks_packetDue
  · exact preTransfer_packetDue beginWriteBlocks_packetDue
  · exact preSession_packetDue beginSectorCount_packetDue
  · exact noSuchPosition_packetDue

/-- After a response the next command is the caller's; CMD55 has no trailing bytes, so its caller goes on from a poll. -/
theorem afterCommand_packetDue (hst : q.stage = s.seq.stage)
    (hp : q.stage.extended = false → ∃ k, q.point = .poll k) : (afterCommand s).packetDue q := by
  unfold afterCommand
  cases h : s.seq.stage <;> rw [h] at hst <;> rw [hst] at hp
  case initReset => exact afterReset_packetDue
  case initVcheck => exact afterVcheck_packetDue
  case initCrcen => exact sendCommand_packetDue (by decide) rfl
  case initOcr => exact afterOcr_packetDue
  case initApp => exact afterApp_packetDue hst (hp rfl)
  case initOpCond => exact afterOpCond_packetDue
  case initCap => exact afterCap_packetDue
  case initBlklen => exact afterBlkLen_packetDue
  case readBlockCmd => exact afterReadBlockCmd_packetDue
  case writeBlockCmd => exact afterWriteBlockCmd_packetDue
  case readBlocksCmd => exact afterReadBlocksCmd_packetDue
  case readBlocksStop => exact enter_packetDue Point.noConfusion
  case preErasePrefix => exact afterPreErasePrefix_packetDue hst (hp rfl)
  case preEraseCount => exact beginWriteMulti_packetDue
  case writeBlocksCmd => exact afterWriteBlocksCmd_packetDue
  case sectorCountCmd => exact afterSectorCountCmd_packetDue
  all_goals exact noSuchPosition_packetDue

theorem afterFrame_packetDue (e : Err) : (afterFrame e s).packetDue q := by
  unfold afterFrame
  split
  · exact afterReadBlockData_packetDue e
  · exact afterReadBlocksData_packetDue e
  · exact afterSectorCountData_packetDue e
  · exact noSuchPosition_packetDue

theorem afterBusy_packetDue (e : Err) : (afterBusy e s).packetDue q := by
  unfold afterBusy
  split
  · exact completes_packetDue _
  · exact afterWriteBlocksData_packetDue _
  · exact completes_packetDue _
  · exact completes_packetDue _
  · exact noSuchPosition_packetDue

theorem beginCrc_packetDue : (beginCrc s).packetDue q :=
  packetDue_ite (raises_packetDue _) (packetDue_ite (returns_packetDue 0) (due_packetDue Point.noConfusion))

theorem entry_packetDue : (entry s).packetDue q := by
  unfold entry
  split
  case h_2 | h_6 | h_7 | h_8 | h_9 | h_10 | h_13 => exact due_packetDue Point.noConfusion
  case h_1 => exact raises_packetDue _
  case h_3 => exact returns_packetDue _
  case h_4 | h_5 => exact beginTeardown_packetDue _
  case h_11 | h_12 => exact beginCrc_packetDue
  case h_14 => exact noSuchPosition_packetDue

theorem afterTeardown_packetDue (k : AfterTeardown) : (afterTeardown k s).packetDue q := by
  cases k
  · exact enter_packetDue Point.noConfusion
  · exact due_packetDue Point.noConfusion

theorem afterDummy_packetDue (k : Nat) : (afterDummy k s).packetDue q :=
  packetDue_ite (due_packetDue Point.noConfusion) (due_packetDue Point.noConfusion)

/-- Of a packet's bytes none leads to a first byte. -/
theorem afterPacketByte_packetDue (k : Nat) : (afterPacketByte k s).packetDue q :=
  packetDue_ite (due_packetDue fun h => Nat.succ_ne_zero k (Point.cmdTx.inj h))
    (packetDue_ite (due_packetDue Point.noConfusion) (due_packetDue Point.noConfusion))

theorem nextPayload_packetDue : (nextPayload s).packetDue q :=
  packetDue_ite (due_packetDue Point.noConfusion) (due_packetDue Point.noConfusion)

theorem afterPayloadRx_packetDue : (afterPayloadRx s).packetDue q := by
  unfold afterPayloadRx
  split
  · exact nextPayload_packetDue
  · exact due_packetDue Point.noConfusion

theorem afterTokenTx_packetDue : (afterTokenTx s).packetDue q := by
  unfold afterTokenTx
  split
  · exact due_packetDue Point.noConfusion
  · exact due_packetDue Point.noConfusion

theorem responseReceived_packetDue (b : Byte) : (responseReceived b s).packetDue q := by
  unfold responseReceived
  split
  · exact enter_packetDue Point.noConfusion
  · exact enter_packetDue Point.noConfusion
  · exact noSuchPosition_packetDue

theorem afterPureGet_packetDue (a : Nat) : (afterPureGet a s).packetDue q := by
  unfold afterPureGet
  split
  · exact packetDue_ite (due_packetDue Point.noConfusion) (returns_packetDue _)
  · exact packetDue_ite (due_packetDue Point.noConfusion) (returns_packetDue _)
  · exact packetDue_ite (enter_packetDue Point.noConfusion) (due_packetDue Point.noConfusion)
  · exact noSuchPosition_packetDue

end Sends

/-! ### The moves -/

/-- Where no received byte is looked at. -/
theorem advance_packetDue (s : State) : (advance s).packetDue s.seq := by
  unfold advance
  cases s.seq.point
  case start => exact entry_packetDue
  case tdClk =>
    dsimp only
    split
    · exact afterTeardown_packetDue _
    · exact noSuchPosition_packetDue
  case present => exact afterPresent_packetDue
  case dummy k => exact afterDummy_packetDue k
  case csAssert => exact beginReset_packetDue
  case cmdTx k => exact afterPacketByte_packetDue k
  case opDeadline => exact sendCommand_packetDue (by decide) rfl
  case opCheck => exact afterOpCheck_packetDue
  case tokCheck => exact packetDue_ite (afterFrame_packetDue _) (due_packetDue Point.noConfusion)
  case dataRx => exact afterPayloadRx_packetDue
  case dataPut => exact nextPayload_packetDue
  case crcLo hi => exact packetDue_ite (afterFrame_packetDue _) (afterFrame_packetDue _)
  case tokTx => exact afterTokenTx_packetDue
  case dataTx => exact packetDue_ite (due_packetDue Point.noConfusion) (due_packetDue Point.noConfusion)
  case busyCheck => exact packetDue_ite (afterBusy_packetDue _) (due_packetDue Point.noConfusion)
  case pureGet a => exact afterPureGet_packetDue a
  all_goals exact due_packetDue Point.noConfusion

theorem pollReturns_packetDue {k : Nat} {s : State} (hp : s.seq.point = .poll k) (r : Byte) :
    (pollReturns r s).packetDue s.seq :=
  packetDue_ite (due_packetDue Point.noConfusion) (afterCommand_packetDue rfl fun _ => ⟨k, hp⟩)

theorem moveOn_packetDue (s : State) : (moveOn s).packetDue s.seq := by
  unfold moveOn
  cases hp : s.seq.point
  case poll k =>
    exact packetDue_ite (pollReturns_packetDue hp _)
      (packetDue_ite (due_packetDue Point.noConfusion) (pollReturns_packetDue hp _))
  case ext k x =>
    dsimp only
    split_ifs with he
    · exact packetDue_ite (afterCommand_packetDue rfl fun hne => absurd (hne.symm.trans he.2) Bool.false_ne_true)
        noSuchPosition_packetDue
    · exact advance_packetDue s
  case tokWait =>
    exact packetDue_ite (due_packetDue Point.noConfusion) (packetDue_ite (due_packetDue Point.noConfusion)
      (packetDue_ite (afterFrame_packetDue _) (afterFrame_packetDue _)))
  case dresp => exact responseReceived_packetDue _
  case busyWait => exact packetDue_ite (afterBusy_packetDue _) (due_packetDue Point.noConfusion)
  all_goals exact advance_packetDue s

/-! ### The packet, decoded and exchanged -/

/-- The CRC7 field the framer writes is legal (R85). -/
theorem crcFieldOk_framed (e : Bool) (idx : BitVec 6) (arg : Word) :
    crcFieldOk idx arg (if crcComputed e idx then packetCrc idx arg else 0x7F) = true := by
  unfold crcFieldOk
  split_ifs
  · rw [beq_self_eq_true, Bool.true_or]
  · rw [beq_self_eq_true, Bool.or_true]

/-- ACMD23's argument has 23 bits (R87). -/
theorem eraseArg_high (n : Word) : (n &&& 0x007FFFFF).extractLsb' 23 9 = 0 := by
  have hlow : n.toNat &&& 0x007FFFFF = n.toNat % 2 ^ 23 := Nat.and_two_pow_sub_one_eq_mod _ 23
  apply BitVec.eq_of_toNat_eq
  rw [BitVec.extractLsb'_toNat, BitVec.toNat_and, Nat.shiftRight_eq_div_pow]
  exact congrArg (· % 2 ^ 9) (Nat.div_eq_of_lt (hlow ▸ Nat.mod_lt _ (by decide)))

theorem packetCrc_cmd0 : packetCrc 0 0 = 0x4A := by decide +kernel
theorem packetCrc_cmd8 : packetCrc 8 0x1AA = 0x43 := by decide +kernel
theorem packetCrc_cmd59 : packetCrc 59 1 = 0x41 := by decide +kernel

/-- The framed command of a stage decodes to a well-formed command of R86. -/
theorem decode_commandOf {u : State} {idx : BitVec 6} {arg : Word} (hcmd : u.commandOf = some (idx, arg))
    (hcrc : u.seq.stage = .initCrcen → u.cfg.crcEnable = true) :
    ∃ i, decode .cmdPacket (.packet (frame u.cfg.crcEnable idx arg)) = .ok i ∧ i.wf = true := by
  have hok := crcFieldOk_framed u.cfg.crcEnable idx arg
  have hfixed {c : BitVec 7} (hcomp : crcComputed u.cfg.crcEnable idx = true) (hc : packetCrc idx arg = c) :
      (if crcComputed u.cfg.crcEnable idx then packetCrc idx arg else 0x7F) = c := (if_pos hcomp).trans hc
  rw [decode_frame]
  generalize (if crcComputed u.cfg.crcEnable idx then packetCrc idx arg else 0x7F) = crc at hok hfixed ⊢
  unfold State.commandOf at hcmd
  cases hst : u.seq.stage <;> rw [hst] at hcmd <;> cases hcmd
  case initReset =>
    cases hfixed ((crcComputed_iff ..).2 (.inr (.inl rfl))) packetCrc_cmd0
    exact ⟨.cmd0, rfl, rfl⟩
  case initVcheck =>
    cases hfixed ((crcComputed_iff ..).2 (.inr (.inr rfl))) packetCrc_cmd8
    exact ⟨.cmd8, rfl, rfl⟩
  case initCrcen =>
    cases hfixed ((crcComputed_iff ..).2 (.inl (hcrc hst))) packetCrc_cmd59
    exact ⟨.cmd59, rfl, rfl⟩
  case initOcr | initCap => exact ⟨.cmd58 crc, rfl, hok⟩
  case initApp | preErasePrefix => exact ⟨.cmd55 crc, rfl, hok⟩
  case initOpCond =>
    cases hl : u.legacy <;> rw [hl] at hok
    · exact ⟨.acmd41 crc, rfl, hok⟩
    · exact ⟨.acmd41Legacy crc, rfl, hok⟩
  case initBlklen => exact ⟨.cmd16 crc, rfl, hok⟩
  case readBlockCmd => exact ⟨.cmd17 _ crc, rfl, hok⟩
  case writeBlockCmd => exact ⟨.cmd24 _ crc, rfl, hok⟩
  case readBlocksCmd => exact ⟨.cmd18 _ crc, rfl, hok⟩
  case readBlocksStop => exact ⟨.cmd12 crc, rfl, hok⟩
  case preEraseCount =>
    refine ⟨.acmd23 _ crc, rfl, ?_⟩
    rw [Instr.wf, hok, eraseArg_high]; rfl
  case writeBlocksCmd => exact ⟨.cmd25 _ crc, rfl, hok⟩
  case sectorCountCmd => exact ⟨.cmd9 crc, rfl, hok⟩

/-- The first byte of a packet that decodes: its index after the start bits (R84, R120). -/
theorem issue_packet {u : State} {i : Instr} (hseq : u.seq.point = .cmdTx 0)
    (hdec : decode .cmdPacket (.packet u.pkt) = .ok i) : issue u = .next (sendPacket u.pkt u) := by
  have hs : toSend u = some (.cmdPacket, .packet u.pkt) := by simp only [toSend, hseq]
  rw [issue_decoded hs hdec, exec_packet (encode_of_decodePacket hdec)]

/-- A primitive keeps the position it was due at; a completion has none. -/
theorem Performed.point {u t : State} (h : Performed u t) : t.seq.point = u.seq.point ∨ t.seq.point = .start := by
  cases h with
  | timeSampled => left; unfold sampleNow; split <;> rfl
  | completed => exact .inr rfl
  | _ => exact .inl rfl

/-- A controller step that sends the first byte of a packet: the move makes it due, framed for its stage, and it is exchanged. -/
theorem turn_sends_packet {s t : State} (hi : s.Inv) (h : turn s = .next t) (hp : t.seq.point = .cmdTx 0) :
    ∃ u, u.Framed s.seq ∧ t = sendPacket u.pkt u := by
  cases hb : s.busy with
  | false =>
    cases (turn_idle hb).symm.trans h
    rw [(hi.idle hb).1] at hp; cases hp
  | true =>
    have hd := (hi.position hb).1
    obtain ⟨hd', -⟩ | ⟨-, hperf⟩ := performed_of_turn hb h
    · exact absurd (hd'.symm.trans hd) Bool.false_ne_true
    have hdue : (moveOn s).seq.point = .cmdTx 0 := by
      rcases hperf.point with hk | hstart
      · exact hk.symm.trans hp
      · cases hp.symm.trans hstart
    have hframed := moveOn_packetDue s hdue
    obtain ⟨idx, arg, hcmd, hpkt⟩ := hframed.packet
    obtain ⟨i, hdec, -⟩ := decode_commandOf hcmd hframed.crcEnable
    rw [turn_at_rest hd hb, issue_packet hdue (hpkt ▸ hdec)] at h
    cases h
    exact ⟨moveOn s, hframed, rfl⟩

/-- Settles O5: the packet of `turn_sends_packet` is the framed command of its stage, which decodes (`decode_commandOf`); its first
byte holds the index. -/
theorem closedCommandSet : Obligations.ClosedCommandSet := by
  intro s t hi h hp
  obtain ⟨u, hframed, rfl⟩ := turn_sends_packet hi h hp
  obtain ⟨idx, arg, hcmd, hpkt⟩ := hframed.packet
  refine ⟨⟨idx, arg, hcmd, hpkt, ?_, hpkt ▸ decode_commandOf hcmd hframed.crcEnable⟩, hframed.opCond, hframed.eraseCount,
    hframed.crcEnable⟩
  show packetByte u.pkt 0 = _
  rw [hpkt, frame_eq_packet, packetByte_zero]

end Sys2Proof.Machine
end

section
/-! PROOFS. What the items do where they stand: sent (O17, O18, O31), received (O19, O20, O25), discarded while the block sends
(O55); and the two operations of one step (O33). -/

namespace Sys2Proof.Machine

/-! ### Items sent -/

/-- Settles O17: executing a packet is `sendPacket` (`exec_packet`), which loads it and exchanges its first byte. -/
theorem commandPacketsStart : Obligations.CommandPacketsStart := fun _ _ s h => exec_packet h s

/-- Settles O18: each is an exchange when it is due. -/
theorem tokensAndFillSent : Obligations.TokensAndFillSent := by
  intro i b s hmem hd
  simp only [List.mem_cons, Prod.mk.injEq, List.not_mem_nil, or_false] at hmem
  rcases hmem with ⟨rfl, rfl⟩ | ⟨rfl, rfl⟩ | ⟨rfl, rfl⟩ | ⟨rfl, rfl⟩
  · simp only [exec, execTokenStartSingle, hd]; rfl
  · rfl
  · rfl
  · simp only [exec, execFill, hd]; rfl

/-- The byte of the CRC field that is sent: 0xFF when `CRC_ON` = 0 (R225). -/
theorem txCrc_byte (s : State) {a : Nat} (ha : a = 0 ∨ a = 8) :
    s.txCrc.extractLsb' a 8 = if s.crcOn then s.crc16r.extractLsb' a 8 else 0xFF := by
  unfold State.txCrc
  split_ifs
  · rfl
  · rcases ha with rfl | rfl <;> rfl

/-- `Now()` in a platform time base does not go back (R123). -/
theorem sampleNow_platform {s : State} (h : s.cfg.timeBase = .platform) :
    s.now ≤ (sampleNow s).tval ∧ (sampleNow s).now = (sampleNow s).tval := by
  simp [sampleNow, State.timeNow, h]

/-- Settles O31: a receiving position sends the fill byte (`issue_fill`); at the others the due primitive is performed. -/
theorem duePrimitivesAndTime : Obligations.DuePrimitivesAndTime := by
  refine ⟨fun s hd => ⟨fun hp => ?_, fun k hp => ?_, fun hp => ?_, fun hp => ?_, fun hp => ?_, fun hp => ?_⟩,
    fun s => ⟨fun hbase => ?_, sampleNow_platform⟩⟩
  · refine issue_fill hd ?_
    simp only [List.mem_cons, List.not_mem_nil, or_false] at hp
    rcases hp with (hp | hp | hp | hp | hp | hp | hp | hp) | ⟨k, hp | hp⟩ | ⟨k, x, hp⟩ | ⟨hi, hp⟩ <;>
      simp only [toSend, hp]
  · rw [issue_perform (by simp only [toSend, hp]), perform, hp]
  · rw [issue_perform (by simp only [toSend, hp]), perform, hp]
  · rw [issue_perform (by simp only [toSend, hp]), perform, hp, ← txCrc_byte s (.inr rfl)]
  · rw [issue_perform (by simp only [toSend, hp]), perform, hp, ← txCrc_byte s (.inl rfl)]
  · simp only [List.mem_cons, List.not_mem_nil, or_false] at hp
    rcases hp with hp | hp | hp | hp | hp | hp <;> rw [issue_perform (by simp only [toSend, hp]), perform, hp]
  · simp only [sampleNow, State.timeNow, hbase]

/-! ### Items received -/

theorem readErrorToken_ne_ok (e : BitVec 4) : readErrorToken e ≠ .ok ∧ retryable (readErrorToken e) = false := by
  revert e; decide

section TokenWait
variable {s : State} {st : Stage} (hseq : s.seq = ⟨st, .tokWait, true⟩)
include hseq

theorem exec_startToken : exec .tokenStartSingle s = .next (frameStarts s) := by
  simp only [exec, execTokenStartSingle, lookedAt, State.atTokWait, hseq]; rfl

theorem exec_readErrorToken (e : BitVec 4) : exec (.tokenReadError e) s = .next (afterFrame (readErrorToken e) s) := by
  simp only [exec, execTokenReadError, lookedAt, State.atTokWait, hseq]; rfl

end TokenWait

/-- A received idle byte (R101). -/
theorem exec_fill_received {s : State} (hd : s.seq.done = true) : exec .fill s = .next (idleByte s) := if_pos hd

/-- A read-error token ends the frame with its error, not to be tried again (R98, R228). -/
theorem afterFrame_readError {s : State} {st : Stage} (hst : s.seq.stage = st)
    (h : st = .readBlockData ∨ st = .sectorCountData) (e : BitVec 4) :
    afterFrame (readErrorToken e) s = raises (readErrorToken e) s := by
  obtain ⟨hne, hretry⟩ := readErrorToken_ne_ok e
  rcases h with rfl | rfl
  · simp only [afterFrame, hst, afterReadBlockData, if_neg hne, retryOrRaise, hretry, Bool.false_eq_true, false_and, if_false]
  · simp only [afterFrame, hst, afterSectorCountData, if_neg hne]

/-- Settles O19: each item executed at its wait is the move the wait makes for it. -/
theorem receivedTokensAndBusBytes : Obligations.ReceivedTokensAndBusBytes := by
  refine ⟨fun st s hseq => ⟨?_, fun e => ⟨fun hst => ?_, fun hst => ?_⟩⟩,
    fun st s => ⟨fun hseq => ⟨?_, ?_⟩, fun hseq => ?_, fun k hk hseq => ?_⟩⟩
  · rw [exec_startToken hseq, frameStarts, State.due, startFrame, hseq]
  · rw [exec_readErrorToken hseq, afterFrame_readError (by rw [hseq]) hst, raises, State.due, hseq]; rfl
  · rw [exec_readErrorToken hseq]
    subst hst
    simp only [afterFrame, hseq, afterReadBlocksData, if_neg (readErrorToken_ne_ok e).1]; rfl
  · simp only [exec, execBusy, lookedAt, State.atBusyWait, hseq, stillBusy, State.due]; rfl
  · rw [exec_fill_received (by rw [hseq]), idleByte, hseq]
  · rw [exec_fill_received (by rw [hseq]), idleByte, hseq]
    simp only [State.due, hseq]
  · rw [exec_fill_received (by rw [hseq]), idleByte, hseq]
    simp only [pollAgain, r1Poll, hk, State.due, hseq, if_true]

/-- Bits [7:5] of a data response are ignored (R97). -/
theorem dataResp_codes (x : BitVec 3) :
    dataResp (x ++ 0x05#5) = .ok ∧ dataResp (x ++ 0x0B#5) = .dataCrcError ∧ dataResp (x ++ 0x0D#5) = .writeRejected := by
  revert x; decide

/-- The data response of a written block is recorded, and the busy wait follows (R225). -/
theorem responseReceived_eq (b : Byte) (s : State) :
    (s.seq.stage = .writeBlockData → responseReceived b s = s.enter (.writeBlockBusy (dataResp b)) .busyDeadline) ∧
      (s.seq.stage = .writeBlocksData → responseReceived b s = s.enter (.writeBlocksBusy (dataResp b)) .busyDeadline) := by
  constructor <;> intro h <;> rw [responseReceived, h]

/-- A data response executed where it is received is recorded by its code (R97, R226). -/
theorem exec_dataResponse {i : Instr} {e : Err} {x : BitVec 3} {s : State} (hat : s.atDresp = true)
    (hmem : (i, e) ∈
      [(Instr.drespAccepted x, Err.ok), (.drespCrcError x, .dataCrcError), (.drespWriteError x, .writeRejected)]) :
    ∃ b, exec i s = .next (responseReceived b s) ∧ dataResp b = e := by
  obtain ⟨h5, hB, hD⟩ := dataResp_codes x
  have here (f : State → State) : lookedAt s.atDresp f s = .next (f s) := congrArg Host.Outcome.next (if_pos hat)
  simp only [List.mem_cons, Prod.mk.injEq, List.not_mem_nil, or_false] at hmem
  rcases hmem with ⟨rfl, rfl⟩ | ⟨rfl, rfl⟩ | ⟨rfl, rfl⟩
  · exact ⟨_, here _, h5⟩
  · exact ⟨_, here _, hB⟩
  · exact ⟨_, here _, hD⟩

/-- Settles O20: the response is recorded by `dataResp`, executed (`exec_dataResponse`) or decoded from the byte
(`retire_dresp`), and `responseReceived_eq` goes on with the busy wait in either procedure. -/
theorem dataResponseCodes : Obligations.DataResponseCodes := by
  refine ⟨fun i x e s hmem => ⟨fun hseq => ?_, fun hseq => ?_⟩, fun e s hd hp he => ?_⟩
  · obtain ⟨b, hexec, rfl⟩ := exec_dataResponse (by rw [State.atDresp, hseq]; rfl) hmem
    rw [hexec, (responseReceived_eq b s).1 (by rw [hseq])]; rfl
  · obtain ⟨b, hexec, rfl⟩ := exec_dataResponse (by rw [State.atDresp, hseq]; rfl) hmem
    rw [hexec, (responseReceived_eq b s).2 (by rw [hseq])]; rfl
  · subst he
    rw [retire_dresp hd hp]
    exact ⟨fun h => congrArg _ ((responseReceived_eq s.rx s).1 h), fun h => congrArg _ ((responseReceived_eq s.rx s).2 h)⟩

/-! ### CMD8's response (R187) -/

theorem status_bits (status : BitVec 7) :
    (0#1 ++ status : Byte).getLsbD 2 = status.getLsbD 2 ∧ ((0#1 ++ status : Byte) &&& 0x7A ≠ 0 ↔ status &&& 0x7A ≠ 0) := by
  revert status; decide

/-- The echo of CMD8's argument: the voltage field and the check pattern (R92). -/
theorem ifCond_echo (n : BitVec 4) (z : BitVec 16) (v : BitVec 4) (k : BitVec 8) :
    (n ++ z ++ v ++ k : Word) &&& 0xFFF = 0x1AA ↔ v = 1 ∧ k = 0xAA := by
  have hassoc : (n ++ z ++ v ++ k : Word) = (n ++ z) ++ (v ++ k) := BitVec.append_assoc
  have hlow : (n ++ z ++ v ++ k : Word) &&& 0xFFF = (v ++ k).setWidth 32 := by
    refine (and_mask_eq _ (n := 12) (by decide)).trans (congrArg _ ?_)
    rw [hassoc]
    exact extract_append_low (n ++ z) (v ++ k)
  rw [hlow]
  constructor
  · intro h
    have hvk : v ++ k = 0x1AA#12 := by simpa using congrArg (BitVec.setWidth 12) h
    have hv : (v ++ k).extractLsb' 8 4 = v := (extract_append_high v k 0 4).trans BitVec.extractLsb'_eq_self
    have hk : (v ++ k).extractLsb' 0 8 = k := extract_append_low v k
    exact ⟨hv.symm.trans (congrArg (·.extractLsb' 8 4) hvk), hk.symm.trans (congrArg (·.extractLsb' 0 8) hvk)⟩
  · rintro ⟨rfl, rfl⟩; rfl

/-- VoltageCheck on a status byte (R187): the illegal-command bit, then another error, then the echo. -/
theorem voltageCheck_status (status : BitVec 7) (x : Word) :
    voltageCheck (0#1 ++ status) x =
      if status.getLsbD 2 = false ∧ status &&& 0x7A ≠ 0 then .error (mapErrBits (0#1 ++ status))
      else .ok (decide (status.getLsbD 2 = true ∨ x &&& 0xFFF ≠ 0x1AA)) := by
  obtain ⟨h2, herr⟩ := status_bits status
  unfold voltageCheck
  rw [status_bit7, h2, if_neg Bool.false_ne_true]
  simp only [herr]
  cases status.getLsbD 2 with
  | true => rfl
  | false =>
    simp only [Bool.false_eq_true, if_false, true_and, false_or]
    split_ifs with _ hecho
    · rfl
    · rw [decide_eq_true hecho]
    · rw [decide_eq_false hecho]

/-- After CMD8's status byte, by `VoltageCheck` (R187). -/
theorem afterVcheck_status {status : BitVec 7} {s : State} (h : s.resp = 0#1 ++ status) :
    afterVcheck s =
      if status.getLsbD 2 = false ∧ status &&& 0x7A ≠ 0 then raisesInit (mapErrBits s.resp) s
      else beginCrcEnable { s with legacy := decide (status.getLsbD 2 = true ∨ s.respx &&& 0xFFF ≠ 0x1AA) } := by
  rw [afterVcheck, h, voltageCheck_status]
  split_ifs <;> rfl

/-- Settles O25: CMD8's response is complete, and `afterVcheck_status` goes on with its two fields of the echo (`ifCond_echo`). -/
theorem interfaceConditionResponse : Obligations.InterfaceConditionResponse := by
  intro status n z v k x s u hseq hu
  have hat : s.atExtEnd = true := by rw [State.atExtEnd, hseq]; rfl
  have hexec : exec (.resp7 status n z v k) s = .next (afterCommand u) := by
    rw [hu]; exact congrArg Host.Outcome.next (if_pos hat)
  have hst : u.seq.stage = .initVcheck := by rw [hu, hseq]
  have hresp : u.resp = 0#1 ++ status := by rw [hu]
  have hrespx : u.respx = n ++ z ++ v ++ k := by rw [hu]
  have hcfg : u.cfg = s.cfg := by rw [hu]
  rw [hexec, afterCommand, hst]
  refine congrArg _ ((afterVcheck_status hresp).trans ?_)
  simp only [hrespx, ne_eq, ifCond_echo, not_and_or, ← hcfg, hresp]
  rfl

/-! ### Operations of one step -/

/-- A move to the completion completes the operation in that step (R282). -/
theorem turn_finish {s u : State} {e : Err} {v : Word} (hb : s.busy = true) (hd : s.seq.done = true)
    (hmove : moveOn s = u.due (.finish e v)) : turn s = .next (complete e v (u.due (.finish e v))) := by
  rw [turn_at_rest hd hb, hmove]; rfl

/-- A `CTRL` write to an idle block of an operation whose entry is its completion: the operation completes in its first step, and
only the request latch, RESULT, VALUE and the working registers change. -/
theorem started_completes {s : State} {r : List Input} {v : Word} {e : Err} {x : Word} (hin : s.inputs = .write 0 v :: r)
    (hb : s.busy = false)
    (hentry : ∀ u : State, u.seq.stage = startStage (v.extractLsb' 0 8) → u.lifecycle = s.lifecycle →
      u.blockAddr = s.blockAddr → entry u = u.due (.finish e x)) :
    ∃ u t, step s = .next u ∧ u.busy = true ∧ turn u = .next t ∧ t.completed e (if e = .ok then x else 0) ∧ s.sameSession t ∧
      s.noExchange t ∧ t.hostbuf = s.hostbuf ∧ t.pval = s.pval ∧ t.tval = s.tval ∧ t.mval = s.mval ∧
      t.crc7r = s.crc7r ∧ t.crc16r = s.crc16r ∧ t.resp = s.resp ∧ t.respx = s.respx := by
  have hstep := (step_write hin).trans ((hostWrite_ctrl v _).trans (congrArg _ (start_idle _ _ hb)))
  exact ⟨_, _, hstep, rfl, turn_finish rfl rfl (hentry _ rfl rfl rfl), ⟨rfl, rfl, rfl, rfl⟩,
    ⟨rfl, rfl, rfl, rfl, rfl, rfl, rfl, rfl, rfl⟩, ⟨rfl, rfl, rfl⟩, rfl, rfl, rfl, rfl, rfl, rfl, rfl, rfl⟩

theorem startStage_isBlockAddressed (op : BitVec 8) : op.setWidth 32 = 3#32 → startStage op = .isBlockAddressed := by
  revert op; decide

/-- Settles O33: both entries are completions (`started_completes`). -/
theorem oneStepOperations : Obligations.OneStepOperations := by
  intro s r v hin hb
  rw [ctrl_and_eq]
  refine ⟨fun hv => ?_, fun hv => ?_⟩
  · have hst := startStage_of_error _ _ ((decodeHost_reserved_iff _).2 hv)
    obtain ⟨u, t, hstep, hbusy, hturn, hdone, hsession, hexchange, hbuf, hpval, htval, hmval, -⟩ :=
      started_completes (e := .parameterOutOfRange) (x := 0) hin hb fun u hu _ _ => by rw [entry, hu, hst]; rfl
    exact ⟨u, t, hstep, hbusy, hturn, hdone, hsession, hexchange, hbuf, hpval, htval, hmval⟩
  · have hst := startStage_isBlockAddressed _ hv
    exact started_completes (e := .ok) hin hb fun u hu hl ha => by rw [entry, hu, hst, ← hl, ← ha]; rfl

/-! ### Bytes received while the block sends (R101) -/

/-- The state with another byte received. -/
def State.withRx (b : Byte) (s : State) : State := { s with rx := b }

theorem ite_withRx {c : Prop} [Decidable c] {b : Byte} {u v u' v' : State}
    (hu : u' = u.withRx b) (hv : v' = v.withRx b) :
    (if c then u' else v') = (if c then u else v).withRx b := by
  split_ifs <;> assumption

section Discarded
variable (s : State) (b : Byte)

theorem withRx_seq : (s.withRx b).seq = s.seq := rfl

theorem afterDummy_withRx (k : Nat) : afterDummy k (s.withRx b) = (afterDummy k s).withRx b := ite_withRx rfl rfl

theorem afterPacketByte_withRx (k : Nat) : afterPacketByte k (s.withRx b) = (afterPacketByte k s).withRx b :=
  ite_withRx rfl (ite_withRx rfl rfl)

theorem afterPayloadTx_withRx : afterPayloadTx (s.withRx b) = (afterPayloadTx s).withRx b := ite_withRx rfl rfl

theorem afterTokenTx_withRx : afterTokenTx (s.withRx b) = (afterTokenTx s).withRx b := by
  by_cases h : s.seq.stage = .writeBlocksStop
  · simp only [afterTokenTx, withRx_seq, h]; rfl
  · rw [afterTokenTx_of_ne h, afterTokenTx_of_ne (s := s.withRx b) h]; rfl

/-- The move after a sent byte is the same whatever was received, and does not touch what was. -/
theorem moveOn_withRx {s : State}
    (h : s.seq.point ∈ ([.stopGap, .pad, .dataTx, .crcTxHi, .crcTxLo, .stopByte] : List Point) ∨
      (∃ k, s.seq.point = .cmdTx k ∨ s.seq.point = .dummy k) ∨ ∃ x, s.seq.point = .tokTx x) :
    moveOn (s.withRx b) = (moveOn s).withRx b := by
  simp only [List.mem_cons, List.not_mem_nil, or_false] at h
  rcases h with (hp | hp | hp | hp | hp | hp) | ⟨k, hp | hp⟩ | ⟨x, hp⟩ <;> simp only [moveOn, advance, withRx_seq, hp]
  case inl.inr.inr.inl => exact afterPayloadTx_withRx s b
  case inr.inl.inl => exact afterPacketByte_withRx s b k
  case inr.inl.inr => exact afterDummy_withRx s b k
  case inr.inr => exact afterTokenTx_withRx s b
  all_goals rfl

end Discarded

/-- Settles O55: the move after each of these positions does not see the byte received (`moveOn_withRx`). -/
theorem sendingDiscardsReceived : Obligations.SendingDiscardsReceived := by
  intro s t b hd h hp
  cases (retire_eq_moveOn hd).symm.trans h
  exact (retire_eq_moveOn (s := s.withRx b) hd).trans (congrArg _ (moveOn_withRx b hp))

end Sys2Proof.Machine
end

section
/-! PROOFS. The transport: the steps of Teardown, and an operation that finds no card (O38); chip select and the clock at rest and
in every exchange (O49). -/

namespace Sys2Proof.Machine

/-! ### The steps of Teardown (R200) -/

/-- A run, one step at its front. -/
theorem turns_of_turn {n : Nat} {s u t : State} (h : turn s = .next u) (hrun : turns n u = .next t) :
    turns (n + 1) s = .next t := by
  rw [turns, h, andThen_next, hrun]

theorem turn_beginTeardown {s u : State} {k : AfterTeardown} (hb : s.busy = true) (hd : s.seq.done = true)
    (hmove : moveOn s = beginTeardown k u) : turn s = .next (setCs false (beginTeardown k u)) := by
  rw [turn_at_rest hd hb, hmove]; rfl

theorem turn_tdCs {s : State} {k : AfterTeardown} (hb : s.busy = true) (hseq : s.seq = ⟨.tearingDown k, .tdCs, true⟩) :
    turn s = .next (setClk false (s.due .tdClk)) := by
  have hmove : moveOn s = s.due .tdClk := by rw [moveOn, advance, hseq]
  rw [turn_at_rest (by rw [hseq]) hb, hmove]; rfl

theorem turn_tdClk {s : State} {e : Err} (hb : s.busy = true) (hseq : s.seq = ⟨.tearingDown (.complete e), .tdClk, true⟩) :
    turn s = .next (complete e 0 ((clearSession s).due (.finish e 0))) :=
  turn_finish hb (by rw [hseq]) (by rw [moveOn, advance, hseq]; rfl)

/-- From a move into Teardown the operation completes in three steps, with no session and without an exchange (R200, R285). -/
theorem teardown_completes {s u : State} {e : Err} (hb : s.busy = true) (hd : s.seq.done = true)
    (hmove : moveOn s = beginTeardown (.complete e) u) (hbu : u.busy = true) :
    ∃ t, turns 3 s = .next t ∧ t.completed e 0 ∧ t.noSession ∧ u.noExchange t ∧ t.hostbuf = u.hostbuf := by
  have hrun := turns_of_turn (turn_beginTeardown hb hd hmove)
    (turns_of_turn (turn_tdCs hbu rfl) (turns_of_turn (n := 0) (turn_tdClk hbu rfl) rfl))
  refine ⟨_, hrun, ⟨rfl, rfl, ite_self 0, rfl⟩, ⟨rfl, rfl, rfl, rfl, rfl, rfl, rfl, rfl⟩, ?_, ?_⟩
  · constructor <;> simp [beginTeardown]
  · simp [beginTeardown]

/-! ### Operations that sample presence first (R220) -/

/-- The operations that need a card: the transfers and SECTOR_COUNT. -/
def cardOperations : List Stage := [.readBlock, .writeBlock, .readBlocks, .writeBlocks, .sectorCount]

/-- The first step of an operation that needs a card is its `Present()`. -/
theorem turn_start_present {s : State} {st : Stage} (hb : s.busy = true) (hseq : s.seq = ⟨st, .start, true⟩)
    (hst : st ∈ cardOperations) : turn s = .next (samplePresent (s.due .present)) := by
  have hentry : entry s = s.due .present := by
    simp only [cardOperations, List.mem_cons, List.not_mem_nil, or_false] at hst
    rcases hst with rfl | rfl | rfl | rfl | rfl <;> rw [entry, hseq]
  have hmove : moveOn s = s.due .present := by rw [moveOn, advance, hseq]; exact hentry
  rw [turn_at_rest (by rw [hseq]) hb, hmove]; rfl

/-- Without a card the operation goes into Teardown (R220, R285). -/
theorem afterPresent_absent {s : State} (hst : s.seq.stage ∈ cardOperations) (hp : s.pval = false) :
    afterPresent s = beginTeardown (.complete .noCard) s := by
  simp only [cardOperations, List.mem_cons, List.not_mem_nil, or_false] at hst
  rcases hst with h | h | h | h | h <;> rw [afterPresent, h] <;> exact if_pos hp

/-- Settles O38: one step samples presence, and Teardown completes the operation in three more (`teardown_completes`). -/
theorem noCardWithoutBusActivity : Obligations.NoCardWithoutBusActivity := by
  intro st s hb hcd hseq hst
  have hstage : (samplePresent (s.due .present)).seq.stage ∈ cardOperations := by
    rw [samplePresent_seq, State.due_seq, hseq]; exact hst
  have hmove : moveOn (samplePresent (s.due .present)) =
      beginTeardown (.complete .noCard) (samplePresent (s.due .present)) := afterPresent_absent hstage hcd
  obtain ⟨t, hrun, hdone, hsession, hexchange, hbuf⟩ :=
    teardown_completes (s := samplePresent (s.due .present)) hb rfl hmove hb
  exact ⟨t, turns_of_turn (turn_start_present hb hseq hst) hrun, hdone, hsession,
    ⟨hexchange.xchgs, hexchange.miso, hexchange.mosi⟩, hbuf⟩

/-! ### Chip select and the clock (R126, R128) -/

/-- Where the outputs agree with the session, each lifecycle has its own (R128). -/
theorem State.quiet.outputs {s : State} (h : s.quiet) :
    (s.lifecycle = .ready → s.cs = true ∧ s.clkFast = true) ∧
    (s.lifecycle = .uninit → s.cs = false ∧ s.clkFast = false) ∧
    s.lifecycle ≠ .idle ∧ (s.clkFast = true → s.lifecycle = .ready) := by
  cases hl : s.lifecycle <;> simp only [State.quiet, hl] at h
  case uninit =>
    obtain ⟨hcs, hclk, -⟩ := h
    simp [hcs, hclk]
  case ready => simp [h]

/-- What chip select and the clock are in an exchange: those of the dummy clocks, or chip select asserted with the clock of the
session (R126, R331). -/
def State.exchangeOutputs (t : State) : Prop :=
  (∃ k, t.seq.stage = .initStart ∧ t.seq.point = .dummy k ∧ t.cs = false ∧ t.clkFast = false) ∨
    (t.cs = true ∧ (t.lifecycle = .ready ∧ t.clkFast = true ∨ t.lifecycle ≠ .ready ∧ t.clkFast = false))

theorem State.sessionOpen.exchangeOutputs {t : State} (h : t.sessionOpen) : t.exchangeOutputs := by
  obtain ⟨hl, hcs, hclk⟩ := h
  exact .inr ⟨hcs, .inl ⟨hl, hclk⟩⟩

theorem State.selectedSlow.exchangeOutputs {t : State} {l : Lifecycle} (h : t.selectedSlow l) (hl : l ≠ .ready) :
    t.exchangeOutputs := by
  obtain ⟨hlife, hcs, hclk, -⟩ := h
  exact .inr ⟨hcs, .inr ⟨hlife ▸ hl, hclk⟩⟩

/-- At a legal position whose primitive is an exchange. -/
theorem State.positionOk.exchangeOutputs {t : State} (hpos : t.positionOk) (hp : t.seq.point.exchanges = true) :
    t.exchangeOutputs := by
  unfold State.positionOk at hpos
  cases hst : t.seq.stage <;> rw [hst] at hpos
  case initReset | initVcheck | initCrcen | initOcr | initApp | initOpCond | initCap | initBlklen =>
    exact hpos.2.exchangeOutputs (by decide)
  case readBlockCmd | readBlockData | writeBlockCmd | writeBlockData | writeBlockBusy | readBlocksStop | readBlocksBusy |
      writeBlocksStop | sectorCountCmd | sectorCountData => exact hpos.2.exchangeOutputs
  case readBlocksCmd | readBlocksData | preErasePrefix | preEraseCount | writeBlocksCmd | writeBlocksData |
      writeBlocksBusy => exact hpos.2.1.exchangeOutputs
  case initStart =>
    cases hpt : t.seq.point <;> rw [hpt] at hpos hp
    case dummy k =>
      obtain ⟨-, -, -, hcs, hclk, -⟩ := hpos
      exact .inl ⟨k, hst, hpt, hcs, hclk⟩
    case start | present | csAssert => cases hp
    all_goals exact hpos.elim
  case idle => exact hpos.elim
  case reserved | isBlockAddressed | teardownOp | initReady => rw [hpos.1] at hp; cases hp
  case cardPresent | readBlock | writeBlock | readBlocks | writeBlocks | sectorCount =>
    rcases hpos.1 with hpt | hpt <;> rw [hpt] at hp <;> cases hp
  case tearingDown =>
    rcases hpos.1 with hpt | ⟨hpt, -⟩ <;> rw [hpt] at hp <;> cases hp
  case crc7 | crc16 | csdParse =>
    cases hpt : t.seq.point <;> rw [hpt] at hpos hp
    case start | pureGet => cases hp
    all_goals exact hpos.elim

/-- A primitive that counts an exchange is one, and leaves its position. -/
theorem Performed.exchanges_of_xchgs_ne {u t : State} (h : Performed u t) (hx : t.xchgs ≠ u.xchgs) :
    u.seq.point.exchanges = true ∧ t.seq = ⟨u.seq.stage, u.seq.point, true⟩ ∧ t.busy = u.busy := by
  cases h with
  | exchanged o hp => exact ⟨hp, rfl, rfl⟩
  | timeSampled => exact absurd (sampleNow_xchgs u) hx
  | _ => exact absurd rfl hx

/-- A dummy byte that is due is the fill byte (R183). -/
theorem mosi_of_dummy {u t : State} {k : Nat} (hd : u.seq.done = false) (hp : u.seq.point = .dummy k)
    (h : issue u = .next t) : t.mosi = 0xFF := by
  cases (issue_fill hd (by rw [toSend, hp])).symm.trans h
  rfl

/-- Settles O49: idle outputs are those of the invariant; a step that exchanges a byte ends at a legal position of an exchange,
whose outputs the invariant gives. -/
theorem outputsAndExchanges : Obligations.OutputsAndExchanges := by
  refine ⟨fun s hi hb => (hi.idle hb).2.outputs, fun s t hi h hne => ?_⟩
  cases hb : s.busy with
  | false =>
    cases (turn_idle hb).symm.trans h
    exact absurd rfl hne
  | true =>
    obtain ⟨hd, -⟩ := hi.position hb
    have hissue : issue (moveOn s) = .next t := turn_at_rest hd hb ▸ h
    have hxchgs : (moveOn s).xchgs = s.xchgs := moveOn_outside_field State.xchgs (fun _ => rfl) s
    have hbusy : (moveOn s).busy = true := (moveOn_outside_field State.busy (fun _ => rfl) s).trans hb
    obtain ⟨hp, hseq, hbt⟩ :=
      (performed_of_issue (moveOn_moves s).due hissue).exchanges_of_xchgs_ne (hxchgs ▸ hne)
    obtain ⟨-, hpos⟩ := (turn_inv hi h).position (hbt.trans hbusy)
    rcases hpos.exchangeOutputs (by rw [hseq]; exact hp) with ⟨k, hst, hpt, hcs, hclk⟩ | hout
    · rw [hseq] at hst hpt
      exact .inl ⟨k, by rw [hseq, hst, hpt], hcs, hclk, mosi_of_dummy (moveOn_moves s).due hpt hissue⟩
    · exact .inr hout

end Sys2Proof.Machine
end

section
/-! PROOFS. The CRC generators as one linear shift register (O6, O7): the table forms, the residue, linearity and leading zeros. -/

namespace Sys2Proof

/-! ### One shift register for both generators -/

/-- The step of R130 and R133 for a polynomial `p` without its leading term. -/
def shiftStep {w : Nat} (p c : BitVec w) (d : Bool) : BitVec w :=
  if (d ^^ c.getLsbD (w - 1)) = true then (c <<< 1) ^^^ p else c <<< 1

/-- A byte absorbed, most significant bit first. -/
def shiftByte {w : Nat} (p c : BitVec w) (b : Byte) : BitVec w := (bitsMsb b).foldl (shiftStep p) c

/-- A byte sequence absorbed. -/
def shiftBytes {w : Nat} (p c : BitVec w) (s : List Byte) : BitVec w := s.foldl (shiftByte p) c

theorem crc7Byte_eq_shiftByte : crc7Byte = shiftByte 0x09 := rfl

theorem crc16Byte_eq_shiftByte : crc16Byte = shiftByte 0x1021 := rfl

theorem crc7_append_byte (s : List Byte) (b : Byte) : crc7 (s ++ [b]) = crc7Byte (crc7 s) b := List.foldl_append

theorem crc16_append_byte (s : List Byte) (b : Byte) : crc16 (s ++ [b]) = crc16Byte (crc16 s) b := List.foldl_append

section Linear
variable {w : Nat} (p c c' : BitVec w)

/-- The feedback is a sum of the polynomial, so the step is linear in register and bit together. -/
theorem shiftStep_xor (d d' : Bool) : shiftStep p (c ^^^ c') (d ^^ d') = shiftStep p c d ^^^ shiftStep p c' d' := by
  have hfeed : ((d ^^ d') ^^ (c ^^^ c').getLsbD (w - 1)) = ((d ^^ c.getLsbD (w - 1)) ^^ (d' ^^ c'.getLsbD (w - 1))) := by
    rw [BitVec.getLsbD_xor, Bool.xor_assoc, Bool.xor_left_comm d', ← Bool.xor_assoc d]
  unfold shiftStep
  rw [hfeed, BitVec.shiftLeft_xor_distrib]
  cases (d ^^ c.getLsbD (w - 1)) <;> cases (d' ^^ c'.getLsbD (w - 1))
  · rfl
  · exact BitVec.xor_assoc ..
  · simp only [Bool.xor_false, if_true, Bool.false_eq_true, if_false]; ac_rfl
  · simp only [Bool.xor_self, if_true, Bool.false_eq_true, if_false]
    rw [BitVec.xor_assoc, BitVec.xor_comm (c' <<< 1), ← BitVec.xor_assoc p, BitVec.xor_self, BitVec.zero_xor]

theorem shiftByte_xor (b b' : Byte) : shiftByte p (c ^^^ c') (b ^^^ b') = shiftByte p c b ^^^ shiftByte p c' b' := by
  simp only [shiftByte, bitsMsb, List.foldl_cons, List.foldl_nil, BitVec.getLsbD_xor, shiftStep_xor]

theorem shiftBytes_xor {a b : List Byte} (h : a.length = b.length) :
    shiftBytes p (c ^^^ c') (List.zipWith (· ^^^ ·) a b) = shiftBytes p c a ^^^ shiftBytes p c' b := by
  induction a generalizing b c c' with
  | nil => cases List.length_eq_zero_iff.1 h.symm; rfl
  | cons x a ih =>
    cases b with
    | nil => cases h
    | cons y b =>
      have hstep := ih (shiftByte p c x) (shiftByte p c' y) (Nat.succ.inj h)
      rw [← shiftByte_xor] at hstep
      exact hstep

/-- Absorbing a zero byte is linear in the register. -/
theorem shiftByte_xor_register : shiftByte p (c ^^^ c') 0 = shiftByte p c 0 ^^^ shiftByte p c' 0 := shiftByte_xor p c c' 0 0

/-- Absorbing a byte in the zero register is linear in the byte. -/
theorem shiftByte_xor_byte (b b' : Byte) : shiftByte p 0 (b ^^^ b') = shiftByte p 0 b ^^^ shiftByte p 0 b' := by
  have h := shiftByte_xor p 0 0 b b'
  rw [BitVec.xor_self] at h
  exact h

/-- Absorbing a byte is absorbing a zero byte, plus the byte's own image. -/
theorem shiftByte_eq_xor (b : Byte) : shiftByte p c b = shiftByte p c 0 ^^^ shiftByte p 0 b := by
  have h := shiftByte_xor p c 0 0 b
  rw [show c ^^^ 0 = c from BitVec.xor_zero, show 0 ^^^ b = b from BitVec.zero_xor] at h
  exact h

/-- With the constant term in the polynomial no bit is lost: the lowest bit of the result is the feedback. -/
theorem shiftStep_eq_zero (hp : p.getLsbD 0 = true) (h : shiftStep p c false = 0) : c = 0 := by
  have hw : 0 < w := BitVec.lt_of_getLsbD hp
  unfold shiftStep at h
  rw [Bool.false_xor] at h
  split_ifs at h with htop
  · have hlow := congrArg (·.getLsbD 0) h
    simp [hp] at hlow
  · refine BitVec.eq_of_getLsbD_eq fun i hi => ?_
    refine Eq.trans ?_ BitVec.getLsbD_zero.symm
    by_cases hlast : i = w - 1
    · rw [hlast]; exact Bool.eq_false_iff.2 htop
    · have hbit := congrArg (·.getLsbD (i + 1)) h
      rw [BitVec.getLsbD_eq_getElem hi]
      simpa [show i + 1 < w by omega] using hbit

/-- Absorbing a zero byte loses no bit. -/
theorem shiftByte_eq_zero (hp : p.getLsbD 0 = true) (h : shiftByte p c 0 = 0) : c = 0 := by
  have hbits : (bitsMsb 0).foldl (shiftStep p) c = (List.replicate 8 false).foldl (shiftStep p) c := rfl
  have hall (n : Nat) : ∀ c, (List.replicate n false).foldl (shiftStep p) c = 0 → c = 0 := by
    induction n with
    | zero => exact fun _ h => h
    | succ n ih => exact fun c h => shiftStep_eq_zero p c hp (ih _ h)
  exact hall 8 c (hbits.symm.trans h)

end Linear

/-! ### The table forms (R131, R134) -/

/-- Seven register bits are absorbed as the top bits of a byte. -/
theorem crc7Byte_zero (c : BitVec 7) : crc7Byte c 0 = crc7Byte 0 (c.setWidth 8 <<< 1) := by
  revert c; decide +kernel

theorem crc7Byte_eq_table (c : BitVec 7) (b : Byte) : crc7Byte c b = crc7 [(c.setWidth 8 <<< 1) ^^^ b] := by
  calc crc7Byte c b = crc7Byte c 0 ^^^ crc7Byte 0 b := by rw [crc7Byte_eq_shiftByte]; exact shiftByte_eq_xor ..
    _ = crc7Byte 0 (c.setWidth 8 <<< 1) ^^^ crc7Byte 0 b := by rw [crc7Byte_zero]
    _ = crc7 [(c.setWidth 8 <<< 1) ^^^ b] := (shiftByte_xor_byte ..).symm

/-- The low half of the register only moves up, the high half is absorbed like a byte. -/
theorem crc16Byte_halves (x : Byte) :
    crc16Byte (x.setWidth 16) 0 = x.setWidth 16 <<< 8 ∧ crc16Byte (x.setWidth 16 <<< 8) 0 = crc16Byte 0 x := by
  revert x; decide +kernel

theorem halves_xor (c : BitVec 16) :
    (c.extractLsb' 8 8).setWidth 16 <<< 8 ^^^ (c.extractLsb' 0 8).setWidth 16 = c := by
  refine BitVec.eq_of_getLsbD_eq fun i hi => ?_
  by_cases h8 : i < 8
  · simp [h8, hi]
  · simp [h8, hi, show i - 8 < 8 by omega, show 8 + (i - 8) = i by omega]

theorem crc16Byte_zero (c : BitVec 16) : crc16Byte c 0 = c <<< 8 ^^^ crc16Byte 0 (c.extractLsb' 8 8) := by
  obtain ⟨hlow, -⟩ := crc16Byte_halves (c.extractLsb' 0 8)
  obtain ⟨-, hhigh⟩ := crc16Byte_halves (c.extractLsb' 8 8)
  have hshift : (c.extractLsb' 0 8).setWidth 16 <<< 8 = c <<< 8 := by
    refine BitVec.eq_of_getLsbD_eq fun i hi => ?_
    simp only [BitVec.getLsbD_shiftLeft, BitVec.getLsbD_setWidth, BitVec.getLsbD_extractLsb', Nat.zero_add]
    rw [decide_eq_true (show i - 8 < 8 by omega), decide_eq_true (show i - 8 < 16 by omega), Bool.true_and, Bool.true_and]
  have hxor :=
    shiftByte_xor_register (0x1021#16) ((c.extractLsb' 8 8).setWidth 16 <<< 8) ((c.extractLsb' 0 8).setWidth 16)
  rw [halves_xor] at hxor
  rw [BitVec.xor_comm, ← hshift, ← hlow, ← hhigh]
  exact hxor

theorem crc16Byte_eq_table (c : BitVec 16) (b : Byte) : crc16Byte c b = (c <<< 8) ^^^ crc16 [c.extractLsb' 8 8 ^^^ b] := by
  calc crc16Byte c b = crc16Byte c 0 ^^^ crc16Byte 0 b := by rw [crc16Byte_eq_shiftByte]; exact shiftByte_eq_xor ..
    _ = c <<< 8 ^^^ (crc16Byte 0 (c.extractLsb' 8 8) ^^^ crc16Byte 0 b) := by rw [crc16Byte_zero, BitVec.xor_assoc]
    _ = c <<< 8 ^^^ crc16 [c.extractLsb' 8 8 ^^^ b] := congrArg _ (shiftByte_xor_byte ..).symm

/-- Settles O6: the bits of all bytes in one fold are the byte-wise definitions; each byte is a table step. -/
theorem crcByteWiseForms : Obligations.CrcByteWiseForms := by
  refine ⟨fun s => List.foldl_flatMap.symm, fun s => List.foldl_flatMap.symm, fun s => ?_, fun s => ?_, ?_⟩
  · exact congrArg (s.foldl · 0) (funext₂ crc7Byte_eq_table)
  · exact congrArg (s.foldl · 0) (funext₂ crc16Byte_eq_table)
  · decide +kernel

/-! ### The properties (R140) -/

/-- Two bytes are absorbed from the register to which they have been added, as two zero bytes. -/
theorem crc16_append_be16 (m : List Byte) (c : BitVec 16) :
    crc16 (m ++ be16 c) = crc16Byte (crc16Byte (crc16 m ^^^ c) 0) 0 := by
  have hhigh (b : Byte) : crc16Byte 0 b = crc16Byte (b.setWidth 16 <<< 8) 0 := (crc16Byte_halves b).2.symm
  have hlow (b : Byte) : b.setWidth 16 <<< 8 = crc16Byte (b.setWidth 16) 0 := (crc16Byte_halves b).1.symm
  have hadd (x y : BitVec 16) : crc16Byte (x ^^^ y) 0 = crc16Byte x 0 ^^^ crc16Byte y 0 := shiftByte_xor_register _ x y
  have habsorb (x : BitVec 16) (b : Byte) : crc16Byte x b = crc16Byte (x ^^^ b.setWidth 16 <<< 8) 0 := by
    rw [hadd, ← hhigh]; exact shiftByte_eq_xor ..
  calc crc16 (m ++ be16 c) = crc16Byte (crc16Byte (crc16 m) (c.extractLsb' 8 8)) (c.extractLsb' 0 8) := List.foldl_append
    _ = crc16Byte (crc16Byte (crc16 m ^^^ (c.extractLsb' 8 8).setWidth 16 <<< 8) 0 ^^^
          crc16Byte ((c.extractLsb' 0 8).setWidth 16) 0) 0 := by rw [habsorb, habsorb (crc16 m), hlow (c.extractLsb' 0 8)]
    _ = crc16Byte (crc16Byte (crc16 m ^^^ c) 0) 0 := by rw [← hadd, BitVec.xor_assoc, halves_xor]

theorem crc16_residue (m : List Byte) (c : BitVec 16) : crc16 (m ++ be16 c) = 0 ↔ c = crc16 m := by
  rw [crc16_append_be16]
  constructor
  · intro h
    have hzero := shiftByte_eq_zero (0x1021#16) _ rfl (shiftByte_eq_zero (0x1021#16) _ rfl h)
    exact (BitVec.xor_eq_zero_iff.1 hzero).symm
  · rintro rfl
    rw [BitVec.xor_self]; decide +kernel

theorem crc7_zipWith_xor {a b : List Byte} (h : a.length = b.length) :
    crc7 (List.zipWith (· ^^^ ·) a b) = crc7 a ^^^ crc7 b := shiftBytes_xor 0x09 0 0 h

theorem crc16_zipWith_xor {a b : List Byte} (h : a.length = b.length) :
    crc16 (List.zipWith (· ^^^ ·) a b) = crc16 a ^^^ crc16 b := shiftBytes_xor 0x1021 0 0 h

theorem crc16_zero_cons (s : List Byte) : crc16 (0x00 :: s) = crc16 s := rfl

theorem crc7_zero_cons (s : List Byte) : crc7 (0x00 :: s) = crc7 s := rfl

theorem crc16_replicate_zero (n : Nat) : crc16 (List.replicate n 0x00) = 0 := by
  induction n with
  | zero => rfl
  | succ n ih => exact (crc16_zero_cons _).trans ih

/-- The trailing byte of a packet: its end bit is 1 (R84), and it is the wildcard only for the CRC7 0x7F (R85). -/
theorem trailingByte (c : BitVec 7) :
    ((c.setWidth 8 <<< 1) ||| 1#8).getLsbD 0 = true ∧ (((c.setWidth 8 <<< 1) ||| 1#8) = 0xFF#8 → c = 0x7F) := by
  revert c; decide +kernel

/-- Settles O7: the residue is an equation of the linear register, which only the zero register solves (`shiftByte_eq_zero`). -/
theorem crcProperties : Obligations.CrcProperties :=
  ⟨fun m => (crc16_residue m _).2 rfl, crc16_residue, fun _ _ h => ⟨crc16_zipWith_xor h, crc7_zipWith_xor h⟩,
    fun s => ⟨crc16_zero_cons s, crc7_zero_cons s⟩, crc16_replicate_zero 512,
    fun s => ⟨(crc7 s).isLt, trailingByte (crc7 s)⟩⟩

end Sys2Proof
end

section
/-! PROOFS. The CRC operations over HOSTBUF (O40): CRC7 and CRC16 run the same steps, each on its own register. -/

namespace Sys2Proof.Machine

/-! ### The register and the value of a CRC operation -/

/-- The stages of the two CRC operations. -/
def Stage.isCrc (st : Stage) : Prop := st = .crc7 ∨ st = .crc16

/-- The register of the operation in stage `st` holds the CRC of `bs` (R41, R42). -/
def State.crcTaken (st : Stage) (bs : List Byte) (s : State) : State :=
  { s with
    crc7r := if st = .crc7 then crc7 bs else s.crc7r
    crc16r := if st = .crc16 then crc16 bs else s.crc16r }

/-- The value the operation in stage `st` returns for `bs` (R138, R139). -/
def crcValue (st : Stage) (bs : List Byte) : Word :=
  if st = .crc7 then (crc7 bs).setWidth 32 else (crc16 bs).setWidth 32

/-- Byte `a` has been read, and the register of the operation in stage `st` holds the CRC of `bs`. -/
def State.byteTaken (st : Stage) (bs : List Byte) (a : Nat) (s : State) : State :=
  { s.crcTaken st bs with mval := s.hostbuf.read a, seq := ⟨st, .pureGet a, true⟩ }

theorem bufferBytes_succ (s : State) (n : Nat) : s.bufferBytes (n + 1) = s.bufferBytes n ++ [s.hostbuf.read n] := by
  rw [State.bufferBytes, List.range_succ, List.map_append]; rfl

/-! ### The steps -/

/-- A byte of a pure operation is read in one step where it is due (R61). -/
theorem turn_byteDue {a : Nat} {s u : State} (hb : s.busy = true) (hd : s.seq.done = true)
    (hmove : moveOn s = u.due (.pureGet a)) (ha : a < u.cfg.hostbufSize) :
    turn s = .next { u with mval := u.hostbuf.read a, seq := ⟨u.seq.stage, .pureGet a, true⟩ } := by
  rw [turn_at_rest hd hb, hmove, issue_perform rfl]
  exact memRead_eq_next.2 ⟨ha, rfl⟩

section Crc
variable {s : State} {st : Stage} (hst : st.isCrc)
include hst

/-- After byte `a` (R138, R139): it is absorbed; the next one, or the result. -/
theorem moveOn_byteTaken (bs : List Byte) (a : Nat) (s : State) :
    moveOn (s.byteTaken st bs a) =
      if a + 1 < s.latLen.toNat then (s.byteTaken st (bs ++ [s.hostbuf.read a]) a).due (.pureGet (a + 1))
      else returns (crcValue st (bs ++ [s.hostbuf.read a])) (s.byteTaken st (bs ++ [s.hostbuf.read a]) a) := by
  rcases hst with rfl | rfl
  · simp only [State.byteTaken, State.crcTaken, crcValue, crc7_append_byte]; rfl
  · simp only [State.byteTaken, State.crcTaken, crcValue, crc16_append_byte]; rfl

variable (hseq : s.seq = ⟨st, .start, true⟩)
include hseq

/-- The entry of a CRC operation (R138, R139): a length outside HOSTBUF, no byte, or byte 0. -/
theorem moveOn_crcStart :
    moveOn s =
      if s.latLen.toNat > s.cfg.hostbufSize then raises .parameterOutOfRange s
      else if s.latLen.toNat = 0 then returns (crcValue st []) (s.crcTaken st [])
      else (s.crcTaken st []).due (.pureGet 0) := by
  have hmove : moveOn s = entry s := by rw [moveOn, advance, hseq]
  have hs : s.seq.stage = st := by rw [hseq]
  have hlen : s.latLen = 0 ↔ s.latLen.toNat = 0 := BitVec.toNat_eq
  rw [hmove]
  rcases hst with rfl | rfl
  · simp only [entry, hs, beginCrc, hlen]
    split_ifs <;> rfl
  · simp only [entry, hs, beginCrc, hlen]
    split_ifs <;> rfl

variable (hb : s.busy = true)
include hb

/-- A length outside HOSTBUF is refused in one step. -/
theorem turn_crc_refused (hlen : s.latLen.toNat > s.cfg.hostbufSize) :
    turn s = .next (complete .parameterOutOfRange 0 (s.due (.finish .parameterOutOfRange 0))) :=
  turn_finish hb (by rw [hseq]) ((moveOn_crcStart hst hseq).trans (if_pos hlen))

variable (hfits : s.latLen.toNat ≤ s.cfg.hostbufSize)
include hfits

/-- Each step reads the next byte, and the register has absorbed the bytes before it. -/
theorem bytes_taken {a : Nat} (ha : a < s.latLen.toNat) : turns (a + 1) s = .next (s.byteTaken st (s.bufferBytes a) a) := by
  induction a with
  | zero =>
    have hmove := moveOn_crcStart hst hseq
    rw [if_neg (by omega), if_neg (by omega)] at hmove
    refine turns_of_turn ((turn_byteDue hb (by rw [hseq]) hmove ?_).trans ?_) rfl
    · exact Nat.lt_of_lt_of_le ha hfits
    · rw [State.byteTaken, ← show s.seq.stage = st by rw [hseq]]; rfl
  | succ a ih =>
    have hmove := moveOn_byteTaken hst (s.bufferBytes a) a s
    rw [if_pos ha, ← bufferBytes_succ] at hmove
    rw [turns_add, ih (by omega), andThen_next]
    exact turns_of_turn (turn_byteDue hb rfl hmove (Nat.lt_of_lt_of_le ha hfits)) rfl

/-- The whole operation (R138, R139): besides the completion only its register and the byte read last have changed. -/
theorem crc_completes :
    ∃ b p, turns (s.latLen.toNat + 1) s = .next
      (complete .ok (crcValue st (s.bufferBytes s.latLen.toNat))
        { s.crcTaken st (s.bufferBytes s.latLen.toNat) with mval := b, seq := ⟨st, p, false⟩ }) := by
  cases hn : s.latLen.toNat with
  | zero =>
    have hmove := moveOn_crcStart hst hseq
    rw [if_neg (by omega), if_pos hn] at hmove
    have hturn := turn_finish hb (by rw [hseq]) hmove
    exact ⟨s.mval, _, turns_of_turn (hturn.trans (by rw [← show s.seq.stage = st by rw [hseq]]; rfl)) rfl⟩
  | succ n =>
    have hmove := moveOn_byteTaken hst (s.bufferBytes n) n s
    rw [if_neg (by omega), ← bufferBytes_succ] at hmove
    rw [turns_add, bytes_taken hst hseq hb hfits (by omega), andThen_next]
    exact ⟨s.hostbuf.read n, _, turns_of_turn (turn_finish hb rfl hmove) rfl⟩

end Crc

theorem startStage_isCrc (op : BitVec 8) :
    (op.setWidth 32 = 10#32 → startStage op = .crc7) ∧ (op.setWidth 32 = 11#32 → startStage op = .crc16) := by
  revert op; decide

/-- A CRC operation from the `CTRL` write to its completion, for either register. -/
theorem crcOperation_run {s : State} {r : List Input} {v : Word} {st : Stage} (hst : st.isCrc)
    (hop : startStage (v.extractLsb' 0 8) = st) (hin : s.inputs = .write 0 v :: r) (hb : s.busy = false) :
    ∃ u, step s = .next u ∧ u.busy = true ∧
      (s.len.toNat > s.cfg.hostbufSize → ∃ t, turn u = .next t ∧ t.completed .parameterOutOfRange 0 ∧
        t.crc7r = s.crc7r ∧ t.crc16r = s.crc16r ∧ s.sameSession t ∧ s.noExchange t ∧ t.hostbuf = s.hostbuf) ∧
      (s.len.toNat ≤ s.cfg.hostbufSize → ∃ t, turns (s.len.toNat + 1) u = .next t ∧
        t.completed .ok (crcValue st (s.bufferBytes s.len.toNat)) ∧
        t.crc7r = (if st = .crc7 then crc7 (s.bufferBytes s.len.toNat) else s.crc7r) ∧
        t.crc16r = (if st = .crc16 then crc16 (s.bufferBytes s.len.toNat) else s.crc16r) ∧
        s.sameSession t ∧ s.noExchange t ∧ t.hostbuf = s.hostbuf ∧ t.pval = s.pval ∧ u.sameHostSide t) := by
  obtain ⟨u, hu⟩ : ∃ u, u = start (v.extractLsb' 0 8) st { s with inputs := r } := ⟨_, rfl⟩
  have hstep : step s = .next u := by rw [step_write hin, hostWrite_ctrl, hop, hu]
  replace hu := hu.trans (start_idle _ _ hb)
  have hseq : u.seq = ⟨st, .start, true⟩ := by rw [hu]
  have hbusy : u.busy = true := by rw [hu]
  have hlen : u.latLen = s.len := by rw [hu]
  have hcfg : u.cfg = s.cfg := by rw [hu]
  refine ⟨u, hstep, hbusy, fun hout => ?_, fun hfits => ?_⟩
  · have hturn := turn_crc_refused hst hseq hbusy (by rwa [hlen, hcfg])
    subst hu
    exact ⟨_, hturn, ⟨rfl, rfl, rfl, rfl⟩, rfl, rfl, ⟨rfl, rfl, rfl, rfl, rfl, rfl, rfl, rfl, rfl⟩, ⟨rfl, rfl, rfl⟩, rfl⟩
  · obtain ⟨b, p, hrun⟩ := crc_completes hst hseq hbusy (by rwa [hlen, hcfg])
    subst hu
    exact ⟨_, hrun, ⟨rfl, rfl, rfl, rfl⟩, rfl, rfl, ⟨rfl, rfl, rfl, rfl, rfl, rfl, rfl, rfl, rfl⟩, ⟨rfl, rfl, rfl⟩, rfl, rfl,
      ⟨rfl, rfl, rfl, rfl, rfl, rfl, rfl, rfl, rfl, rfl, rfl, rfl⟩⟩

/-- Settles O40: both operations are `crcOperation_run`, each with its own register and value. -/
theorem crcOperations : Obligations.CrcOperations := by
  intro s r v hin hb
  rw [ctrl_and_eq]
  refine ⟨fun hv => crcOperation_run (.inl rfl) ((startStage_isCrc _).1 hv) hin hb, fun hv => ?_⟩
  obtain ⟨u, hstep, hbusy, hrefused, hread⟩ := crcOperation_run (.inr rfl) ((startStage_isCrc _).2 hv) hin hb
  refine ⟨u, hstep, hbusy, fun hlen => ?_, fun hlen => ?_⟩
  · obtain ⟨t, hturn, hdone, h7, h16, hframe⟩ := hrefused hlen
    exact ⟨t, hturn, hdone, h16, h7, hframe⟩
  · obtain ⟨t, hrun, hdone, h7, h16, hframe⟩ := hread hlen
    exact ⟨t, hrun, hdone, h16, h7, hframe⟩

end Sys2Proof.Machine
end

section
/-! PROOFS. Who writes HOSTBUF (O52): only `dataPut` stores a byte, and only the move after a received payload byte makes it
due. -/

namespace Sys2Proof.Machine

/-! ### What a procedure goes on with is never the storing of a byte -/

section Due
variable (s : State)

theorem entry_not_dataPut : (entry s).seq.point ≠ .dataPut := by
  unfold entry beginCrc
  repeat' split
  all_goals nofun

theorem preTransfer_not_dataPut {k : State → State} (hk : (k s).seq.point ≠ .dataPut) :
    (preTransfer k s).seq.point ≠ .dataPut := by
  unfold preTransfer preSession
  dsimp only
  split_ifs
  · nofun
  · nofun
  · exact hk
  · nofun

theorem afterPresent_not_dataPut : (afterPresent s).seq.point ≠ .dataPut := by
  unfold afterPresent
  split
  · split <;> nofun
  · unfold afterDetect; split <;> nofun
  · exact preTransfer_not_dataPut s nofun
  · exact preTransfer_not_dataPut s nofun
  · refine preTransfer_not_dataPut s ?_
    unfold beginReadBlocks; split <;> nofun
  · refine preTransfer_not_dataPut s ?_
    unfold beginWriteBlocks; repeat' split
    all_goals nofun
  · unfold preSession beginSectorCount; repeat' split
    all_goals nofun
  · nofun

theorem afterFrame_not_dataPut (e : Err) : (afterFrame e s).seq.point ≠ .dataPut := by
  unfold afterFrame afterReadBlockData retryOrRaise afterReadBlocksData afterSectorCountData
  repeat' split
  all_goals nofun

theorem afterBusy_not_dataPut (e : Err) : (afterBusy e s).seq.point ≠ .dataPut := by
  unfold afterBusy afterWriteBlocksData
  repeat' split
  all_goals nofun

theorem requireInit_not_dataPut {e : Err} {k : State → State} (hk : (k s).seq.point ≠ .dataPut) :
    (requireInit e k s).seq.point ≠ .dataPut := by
  unfold requireInit
  split
  · exact hk
  · nofun

theorem afterCommand_not_dataPut : (afterCommand s).seq.point ≠ .dataPut := by
  unfold afterCommand
  split
  · unfold afterReset; split_ifs <;> nofun
  · unfold afterVcheck beginCrcEnable; split
    · nofun
    · split <;> nofun
  · nofun
  · refine requireInit_not_dataPut s ?_
    split <;> nofun
  · exact requireInit_not_dataPut s nofun
  · refine requireInit_not_dataPut s ?_
    split <;> nofun
  · refine requireInit_not_dataPut s ?_
    unfold beginBlkLen; split <;> nofun
  · exact requireInit_not_dataPut s nofun
  · unfold afterReadBlockCmd retryOrRaise; split_ifs <;> nofun
  · unfold afterWriteBlockCmd; split <;> nofun
  · unfold afterReadBlocksCmd; split <;> nofun
  · nofun
  · unfold afterPreErasePrefix; split <;> nofun
  · nofun
  · unfold afterWriteBlocksCmd; split <;> nofun
  · unfold afterSectorCountCmd; split <;> nofun
  · nofun

theorem pollReturns_not_dataPut (r : Byte) : (pollReturns r s).seq.point ≠ .dataPut := by
  unfold pollReturns
  split
  · nofun
  · exact afterCommand_not_dataPut _

theorem statusReceived_not_dataPut (k : Nat) : (statusReceived k s).seq.point ≠ .dataPut := by
  unfold statusReceived pollAgain
  split_ifs
  · exact pollReturns_not_dataPut s _
  · nofun
  · exact pollReturns_not_dataPut s _

theorem nextPayload_not_dataPut : (nextPayload s).seq.point ≠ .dataPut := by
  unfold nextPayload
  split <;> nofun

theorem afterPureGet_not_dataPut (a : Nat) : (afterPureGet a s).seq.point ≠ .dataPut := by
  unfold afterPureGet
  repeat' split
  all_goals nofun

/-- Where no received byte is looked at. -/
theorem advance_not_dataPut (h : s.seq.point ≠ .dataRx) : (advance s).seq.point ≠ .dataPut := by
  unfold advance
  cases hp : s.seq.point
  case dataRx => exact absurd hp h
  case start => exact entry_not_dataPut s
  case tdClk =>
    dsimp only
    split
    · unfold afterTeardown; split <;> nofun
    · nofun
  case present => exact afterPresent_not_dataPut s
  case dummy k => unfold afterDummy; dsimp only; split <;> nofun
  case cmdTx k => unfold afterPacketByte; dsimp only; split_ifs <;> nofun
  case opCheck => unfold afterOpCheck; dsimp only; split <;> nofun
  case tokCheck =>
    dsimp only
    split
    · exact afterFrame_not_dataPut s _
    · nofun
  case dataPut => exact nextPayload_not_dataPut s
  case crcLo hi =>
    unfold afterCrcRx
    dsimp only
    split
    · exact afterFrame_not_dataPut s _
    · exact afterFrame_not_dataPut s _
  case tokTx b => unfold afterTokenTx; dsimp only; split <;> nofun
  case dataTx => unfold afterPayloadTx; dsimp only; split <;> nofun
  case busyCheck =>
    dsimp only
    split
    · exact afterBusy_not_dataPut s _
    · nofun
  case pureGet a => exact afterPureGet_not_dataPut s a
  all_goals nofun

theorem moveOn_not_dataPut (h : s.seq.point ≠ .dataRx) : (moveOn s).seq.point ≠ .dataPut := by
  unfold moveOn
  split
  · exact statusReceived_not_dataPut s _
  · split
    · unfold extEnds
      split
      · exact afterCommand_not_dataPut _
      · nofun
    · exact advance_not_dataPut s h
  · unfold tokenReceived
    split_ifs
    · nofun
    · nofun
    · exact afterFrame_not_dataPut s _
    · exact afterFrame_not_dataPut s _
  · unfold responseReceived; split <;> nofun
  · unfold busyReceived
    split
    · exact afterBusy_not_dataPut s _
    · nofun
  · exact advance_not_dataPut s h

end Due

/-! ### The step that stores a byte -/

/-- The storing of a byte is due only after a payload byte of a sector has been received (R223). -/
theorem moveOn_of_dataPut {s : State} (hdue : (moveOn s).seq.point = .dataPut) :
    s.seq.point = .dataRx ∧ s.seq.stage ≠ .sectorCountData ∧ moveOn s = (absorb s.rx s).due .dataPut := by
  have hp : s.seq.point = .dataRx := by
    by_contra h
    exact moveOn_not_dataPut s h hdue
  have hmove : moveOn s = afterPayloadRx s := by simp only [moveOn, advance, hp]
  rw [hmove] at hdue ⊢
  unfold afterPayloadRx at hdue ⊢
  split at hdue
  · exact absurd hdue (nextPayload_not_dataPut _)
  case h_2 hst => exact ⟨hp, hst, rfl⟩

/-- The stages that receive a payload (R223). -/
theorem stage_of_dataRx {s : State} (hpos : s.positionOk) (hp : s.seq.point = .dataRx) :
    s.seq.stage = .readBlockData ∨ s.seq.stage = .readBlocksData ∨ s.seq.stage = .sectorCountData := by
  unfold State.positionOk at hpos
  cases hst : s.seq.stage <;> rw [hst, hp] at hpos
  case readBlockData => exact .inl rfl
  case readBlocksData => exact .inr (.inl rfl)
  case sectorCountData => exact .inr (.inr rfl)
  all_goals simp [Point.inCommand, Point.inExtCommand, Point.inWrite, Point.inBusy] at hpos

/-- No primitive but `dataPut` touches HOSTBUF. -/
theorem Performed.hostbuf {u t : State} (h : Performed u t) :
    t.hostbuf = u.hostbuf ∨ u.seq.point = .dataPut ∧ t.hostbuf = u.hostbuf.write u.payloadAddr u.rx := by
  cases h with
  | byteWritten hp => exact .inr ⟨hp, rfl⟩
  | timeSampled => exact .inl (sampleNow_hostbuf u)
  | _ => exact .inl rfl

/-- Settles O52: the move keeps HOSTBUF, and its primitive stores a byte only after a received payload byte of a read. -/
theorem bufferWrittenOnlyByReads : Obligations.BufferWrittenOnlyByReads := by
  intro s t hi h
  cases hb : s.busy with
  | false =>
    cases (turn_idle hb).symm.trans h
    exact .inl rfl
  | true =>
    obtain ⟨hd, hpos⟩ := hi.position hb
    obtain ⟨hd', -⟩ | ⟨-, hp⟩ := performed_of_turn hb h
    · exact absurd (hd'.symm.trans hd) Bool.false_ne_true
    have hkept : (moveOn s).hostbuf = s.hostbuf := moveOn_outside_field State.hostbuf (fun _ => rfl) s
    rcases hp.hostbuf with hsame | ⟨hdue, hwrite⟩
    · exact .inl (hsame.trans hkept)
    obtain ⟨hpt, hst, hmove⟩ := moveOn_of_dataPut hdue
    have haddr : t.hostbuf = s.hostbuf.write s.payloadAddr s.rx := by rw [hwrite, hmove]; rfl
    rcases stage_of_dataRx hpos hpt with h | h | h
    · have hseq : s.seq = ⟨.readBlockData, .dataRx, true⟩ := by rw [← h, ← hpt, ← hd]
      refine .inr (.inl ⟨hseq, haddr.trans ?_⟩)
      simp only [State.payloadAddr, State.block, hseq, Nat.mul_zero, Nat.zero_add]
    · have hseq : s.seq = ⟨.readBlocksData, .dataRx, true⟩ := by rw [← h, ← hpt, ← hd]
      refine .inr (.inr ⟨hseq, haddr.trans ?_⟩)
      simp only [State.payloadAddr, State.block, hseq, blockSize]
    · exact absurd h hst

end Sys2Proof.Machine
end

section
/-! PROOFS. Received frames: a sector's (O43), whose payload goes to HOSTBUF, and the CSD's (O59), whose image goes to CSDREG. -/

namespace Sys2Proof.Machine

/-! ### Bytes stored one after another -/

/-- Bytes stored from address `a` on. -/
def Mem.writeFrom : Mem → Nat → List Byte → Mem
  | m, _, [] => m
  | m, a, b :: bs => Mem.writeFrom (m.write a b) (a + 1) bs

theorem Mem.read_writeFrom {m : Mem} (hm : m.wf = true) (a : Nat) (bs : List Byte) (x : Nat) :
    (m.writeFrom a bs).read x = if a ≤ x ∧ x < a + bs.length then bs.getD (x - a) 0 else m.read x := by
  induction bs generalizing m a with
  | nil => rw [if_neg (by simp)]; rfl
  | cons b bs ih =>
    rw [Mem.writeFrom, ih (Mem.write_wf hm a b), List.length_cons]
    rcases Nat.lt_trichotomy x a with h | h | h
    · rw [if_neg (by omega), if_neg (by omega), Mem.read_write_other hm b (by omega)]
    · rw [if_neg (by omega), if_pos (by omega), h, Mem.read_write_same hm, Nat.sub_self]; rfl
    · rw [Mem.read_write_other hm b (by omega), show x - a = (x - (a + 1)) + 1 by omega, List.getD_cons_succ]
      exact if_congr (by omega) rfl rfl

/-- Bytes put in CSDREG from index `i` on (R269). -/
def csdPut : Vector Byte 16 → Nat → List Byte → Vector Byte 16
  | v, _, [] => v
  | v, i, b :: bs => csdPut (v.setIfInBounds i b) (i + 1) bs

theorem csdPut_toList {v : Vector Byte 16} {i : Nat} {bs : List Byte} (h : i + bs.length ≤ 16) :
    (csdPut v i bs).toList = v.toList.take i ++ bs ++ v.toList.drop (i + bs.length) := by
  induction bs generalizing v i with
  | nil => simp [csdPut]
  | cons b bs ih =>
    rw [List.length_cons] at h
    have hi : i < (v.toList.set i b).length := by rw [List.length_set, Vector.length_toList]; omega
    rw [csdPut, ih (by omega), Vector.toList_setIfInBounds, List.take_succ_eq_append_getElem hi, List.getElem_set_self,
      List.take_set_of_le (Nat.le_refl i), List.drop_set_of_lt (by omega), List.append_assoc _ [b], Nat.add_right_comm]
    rfl

/-- Received bytes one run after another. -/
theorem Sends.fill_trans {α : Type} {keep : State → α} {m n k l : Nat} {s t u : State}
    (h : Sends keep m (List.replicate k 0xFF) s t) (h' : Sends keep n (List.replicate l 0xFF) t u) :
    Sends keep (m + n) (List.replicate (k + l) 0xFF) s u := by
  rw [List.replicate_add]; exact h.trans h'

/-! ### Received bytes, and where a payload goes -/

/-- The state with what a received frame changes forgotten: the wire, the position within the running procedure, the registers
that follow a payload, and where the payload goes. -/
def State.offPayload (s : State) : State :=
  { s with
    mosi := 0xFF, rx := 0, miso := [], draws := 0, xchgs := 0, seq := ⟨s.seq.stage, .start, true⟩
    byteIdx := 0, crc16r := 0, hostbuf := [], csdReg := Vector.replicate 16 0 }

theorem offPayload_xchg (o : Byte) (s : State) : (xchg o s).offPayload = s.offPayload := rfl

/-- Where the sequencer makes a received byte due, one step exchanges 0xFF for the card's next byte (R100). -/
theorem byte_received {s u : State} {b : Byte} {r : List Byte} (hb : s.busy = true) (hd : s.seq.done = true)
    (hmove : moveOn s = u) (hsend : toSend u = some (.fillSend, .byte fillByte)) (hm : s.miso = b :: r)
    (hk : u.offPayload = s.offPayload) :
    Sends State.offPayload 1 (List.replicate 1 0xFF) s (xchg fillByte u) ∧ (xchg fillByte u).rx = b ∧
      (xchg fillByte u).miso = r := by
  have hu : u.miso = b :: r := hm ▸ hmove ▸ (noExchange_of_outside (moveOn_outside s)).miso
  have hissue : issue u = .next (xchg fillByte u) := issue_fill (hmove ▸ (moveOn_moves s).due) hsend
  refine ⟨.exchange hb hd hmove hissue ((offPayload_xchg fillByte u).trans hk), ?_, ?_⟩
  · simp only [xchg_rx, State.nextMiso, hu]
  · rw [xchg_miso, hu]; rfl

/-- From `s` to `t` the payload bytes `bs` of the running frame have been kept: the CSD's in CSDREG, a sector's in HOSTBUF, from
the present byte index on (R223, R269); and CRC16R has absorbed them (R136). -/
structure State.keptBytes (bs : List Byte) (s t : State) : Prop where
  hostbuf : t.hostbuf = if s.seq.stage = .sectorCountData then s.hostbuf else s.hostbuf.writeFrom s.payloadAddr bs
  csdReg : t.csdReg = if s.seq.stage = .sectorCountData then csdPut s.csdReg s.byteIdx bs else s.csdReg
  crc16r : t.crc16r = s.crcAfter bs

theorem State.keptBytes.cons {s u t : State} {b : Byte} {bs : List Byte} (h : s.keptBytes [b] u) (h' : u.keptBytes bs t)
    (hidx : u.byteIdx = s.byteIdx + 1) (hk : u.offPayload = s.offPayload) : s.keptBytes (b :: bs) t := by
  have hst : u.seq.stage = s.seq.stage := field_of_kept hk (fun x => x.seq.stage)
  have haddr : u.payloadAddr = s.payloadAddr + 1 := by
    rw [State.payloadAddr, hidx, show u.block = s.block from field_of_kept hk State.block]; rfl
  refine ⟨h'.hostbuf.trans ?_, h'.csdReg.trans ?_, h'.crc16r.trans (crcAfter_cons (field_of_kept hk State.crcOn) h.crc16r bs)⟩
  · rw [h.hostbuf, haddr, hst]
    split <;> rfl
  · rw [h.csdReg, hidx, hst]
    split <;> rfl

/-! ### One payload byte -/

/-- How many steps a payload byte takes: its exchange, and for a sector's its `MemWrite` (R223). -/
def Stage.byteSteps (st : Stage) : Nat := if st = .sectorCountData then 1 else 2

theorem nextPayload_eq (s : State) :
    nextPayload s =
      State.due (if s.byteIdx + 1 < s.frameSize then .dataRx else .crcHi)
        { s with byteIdx := if s.byteIdx + 1 < s.frameSize then s.byteIdx + 1 else s.byteIdx } := by
  unfold nextPayload
  split <;> rfl

theorem afterPayloadRx_of_ne {s : State} (h : s.seq.stage ≠ .sectorCountData) :
    afterPayloadRx s = (absorb s.rx s).due .dataPut := by
  unfold afterPayloadRx
  split
  · exact absurd ‹_› h
  · rfl

section Received
variable {s : State} {st : Stage} (hb : s.busy = true)
include hb

/-- After a payload byte has been kept the next one is received, or the first CRC byte (R223). -/
theorem nextByte_received {x : State} {c : Byte} {r : List Byte} (hd : s.seq.done = true) (hmove : moveOn s = nextPayload x)
    (hm : s.miso = c :: r) (hk : x.offPayload = s.offPayload) :
    ∃ t, Sends State.offPayload 1 (List.replicate 1 0xFF) s t ∧
      t.seq = ⟨x.seq.stage, if x.byteIdx + 1 < x.frameSize then .dataRx else .crcHi, true⟩ ∧
      t.byteIdx = (if x.byteIdx + 1 < x.frameSize then x.byteIdx + 1 else x.byteIdx) ∧ t.rx = c ∧ t.miso = r ∧
      t.hostbuf = x.hostbuf ∧ t.csdReg = x.csdReg ∧ t.crc16r = x.crc16r := by
  rw [nextPayload_eq] at hmove
  obtain ⟨hrun, hrx, hmiso⟩ := byte_received hb hd hmove
    (by unfold toSend; split_ifs <;> rfl) hm hk
  exact ⟨_, hrun, rfl, rfl, hrx, hmiso, rfl, rfl, rfl⟩

/-- A received payload byte is kept, and the next byte is received (R223). -/
theorem payloadByte_kept {c : Byte} {r : List Byte} (hseq : s.seq = ⟨st, .dataRx, true⟩) (hm : s.miso = c :: r)
    (ha : s.payloadAddr < s.cfg.hostbufSize ∨ st = .sectorCountData) :
    ∃ t, Sends State.offPayload st.byteSteps (List.replicate 1 0xFF) s t ∧
      t.seq = ⟨st, if s.byteIdx + 1 < s.frameSize then .dataRx else .crcHi, true⟩ ∧
      t.byteIdx = (if s.byteIdx + 1 < s.frameSize then s.byteIdx + 1 else s.byteIdx) ∧ t.rx = c ∧ t.miso = r ∧
      s.keptBytes [s.rx] t := by
  have hmove : moveOn s = afterPayloadRx s := by simp only [moveOn, advance, hseq]
  by_cases hst : st = .sectorCountData
  · subst hst
    let x : State := { absorb s.rx s with csdReg := s.csdReg.setIfInBounds s.byteIdx s.rx }
    have hmove' : moveOn s = nextPayload x := by rw [hmove, afterPayloadRx, hseq]
    obtain ⟨t, hrun, ht, hidx, hrx, hmiso, hbuf, hcsd, hcrc⟩ := nextByte_received hb (by rw [hseq]) hmove' hm rfl
    refine ⟨t, hrun, ?_, hidx, hrx, hmiso, ⟨hbuf.trans ?_, hcsd.trans ?_, hcrc⟩⟩
    · rw [ht, show x.seq = s.seq from rfl, hseq]; rfl
    · rw [if_pos (by rw [hseq])]; rfl
    · rw [if_pos (by rw [hseq])]; rfl
  · let x : State :=
      { absorb s.rx s with hostbuf := s.hostbuf.write s.payloadAddr s.rx, seq := ⟨st, .dataPut, true⟩ }
    have hput : turn s = .next x := by
      rw [turn_at_rest (by rw [hseq]) hb, hmove, afterPayloadRx_of_ne (by rw [hseq]; exact hst), issue_perform rfl]
      refine memWrite_eq_next.2 ⟨ha.resolve_right hst, ?_⟩
      rw [State.due_seq, absorb_seq, hseq]; rfl
    have hkept : x.offPayload = s.offPayload := by
      simp only [State.offPayload, x, hseq]; rfl
    have hsize : x.frameSize = s.frameSize := by simp only [State.frameSize, x, hseq]
    have hstore : Sends State.offPayload 1 (List.replicate 0 0xFF) s x := .silent hput ⟨rfl, rfl, rfl⟩ hkept
    obtain ⟨t, hrun, ht, hidx, hrx, hmiso, hbuf, hcsd, hcrc⟩ := nextByte_received (s := x) (x := x) hb rfl rfl hm rfl
    rw [hsize] at ht hidx
    refine ⟨t, ?_, ht, hidx, hrx, hmiso, ⟨hbuf.trans ?_, hcsd.trans ?_, hcrc⟩⟩
    · rw [Stage.byteSteps, if_neg hst]; exact hstore.fill_trans hrun
    · rw [if_neg (by rw [hseq]; exact hst)]; rfl
    · rw [if_neg (by rw [hseq]; exact hst)]; rfl

/-- From a received payload byte on, all the remaining ones are kept, and the first CRC byte is received (R223). -/
theorem payload_kept {bs r : List Byte} {hi : Byte} (hseq : s.seq = ⟨st, .dataRx, true⟩) (hm : s.miso = bs ++ hi :: r)
    (hlen : s.byteIdx + (bs.length + 1) = s.frameSize)
    (hfits : blockSize * s.block + s.frameSize ≤ s.cfg.hostbufSize ∨ st = .sectorCountData) :
    ∃ t, Sends State.offPayload (st.byteSteps * (bs.length + 1)) (List.replicate (bs.length + 1) 0xFF) s t ∧
      t.seq = ⟨st, .crcHi, true⟩ ∧ t.rx = hi ∧ t.miso = r ∧ s.keptBytes (s.rx :: bs) t := by
  have ha : s.payloadAddr < s.cfg.hostbufSize ∨ st = .sectorCountData :=
    hfits.imp_left fun h => by unfold State.payloadAddr; omega
  induction bs generalizing s with
  | nil =>
    obtain ⟨t, hone, ht, -, hrx, hmiso, hkept⟩ := payloadByte_kept hb hseq hm ha
    rw [if_neg (by rw [List.length_nil] at hlen; omega)] at ht
    exact ⟨t, by rw [List.length_nil, Nat.mul_one]; exact hone, ht, hrx, hmiso, hkept⟩
  | cons c bs ih =>
    rw [List.length_cons] at hlen ⊢
    obtain ⟨u, hone, hu, hidx, hrx, hmiso, hkept⟩ := payloadByte_kept hb hseq hm ha
    rw [if_pos (by omega)] at hu hidx
    have hsize : u.frameSize = s.frameSize := hone.field State.frameSize
    have hblock : u.block = s.block := hone.field State.block
    have hcfg : u.cfg = s.cfg := hone.field State.cfg
    have hufits : blockSize * u.block + u.frameSize ≤ u.cfg.hostbufSize ∨ st = .sectorCountData := by
      rwa [hsize, hblock, hcfg]
    obtain ⟨t, hrest, ht, htrx, htmiso, htkept⟩ := ih (s := u) ((hone.field State.busy).trans hb) hu hmiso (by omega) hufits
      (hufits.imp_left fun h => by unfold State.payloadAddr; omega)
    refine ⟨t, ?_, ht, htrx, htmiso, hkept.cons (hrx ▸ htkept) hidx hone.kept⟩
    have hboth := hone.fill_trans hrest
    rwa [Nat.add_comm 1, show st.byteSteps + st.byteSteps * (bs.length + 1) = st.byteSteps * (bs.length + 1 + 1) by
      rw [Nat.mul_succ _ (bs.length + 1), Nat.add_comm]] at hboth

/-- The second CRC byte ends the frame, with an error exactly when `CRC_ON` = 1 and the trailer is not CRC16R (R223). -/
theorem trailer_compared {lo : Byte} {r : List Byte} (hseq : s.seq = ⟨st, .crcHi, true⟩) (hm : s.miso = lo :: r) :
    ∃ t, Sends State.offPayload 1 (List.replicate 1 0xFF) s t ∧ t.miso = r ∧ t.hostbuf = s.hostbuf ∧
      t.csdReg = s.csdReg ∧ retire t = .next
        (afterFrame (if s.crcOn = true ∧ (s.rx ++ lo : BitVec 16) ≠ s.crc16r then .dataCrcError else .ok) t) := by
  let u := s.due (.crcLo s.rx)
  obtain ⟨hrun, hrx, hmiso⟩ := byte_received hb (by rw [hseq])
    (show moveOn s = u by simp only [moveOn, advance, hseq, u]) rfl hm rfl
  refine ⟨_, hrun, hmiso, rfl, rfl, (retire_eq_moveOn rfl).trans (congrArg _ ?_)⟩
  rw [show moveOn (xchg fillByte u) = afterCrcRx s.rx (xchg fillByte u) from rfl, afterCrcRx, hrx]
  exact (apply_ite (afterFrame · (xchg fillByte u)) ..).symm

/-- After the start token the frame starts: the first payload byte is received, and CRC16R will be the payload's alone (R223). -/
theorem firstByte_received {b : Byte} {r : List Byte} (hseq : s.seq = ⟨st, .tokWait, true⟩) (hrx : s.rx = 0xFE)
    (hm : s.miso = b :: r) :
    ∃ u, Sends State.offPayload 1 (List.replicate 1 0xFF) s u ∧ u.seq = ⟨st, .dataRx, true⟩ ∧ u.rx = b ∧ u.miso = r ∧
      u.byteIdx = 0 ∧ u.hostbuf = s.hostbuf ∧ u.csdReg = s.csdReg ∧
      ∀ bs, u.crcAfter bs = if s.crcOn then crc16 bs else s.crc16r := by
  have hmove : moveOn s = (startFrame s).due .dataRx := by simp only [moveOn, hseq, tokenReceived, if_pos hrx]; rfl
  obtain ⟨hrun, hurx, humiso⟩ := byte_received hb (by rw [hseq]) hmove rfl hm rfl
  refine ⟨_, hrun, ?_, hurx, humiso, rfl, rfl, rfl, fun bs => crcAfter_startFrame bs s⟩
  simp only [xchg_seq, State.due_seq, startFrame, hseq]

/-- A frame of `payload` and the trailer `hi`, `lo`, once its start token has come (R223): first byte, payload, trailer. -/
theorem frame_received {payload r : List Byte} {hi lo : Byte} (hseq : s.seq = ⟨st, .tokWait, true⟩) (hrx : s.rx = 0xFE)
    (hm : s.miso = payload ++ hi :: lo :: r) (hlen : payload.length = s.frameSize)
    (hfits : blockSize * s.block + s.frameSize ≤ s.cfg.hostbufSize ∨ st = .sectorCountData) :
    ∃ t, Sends State.offPayload (1 + st.byteSteps * s.frameSize + 1) (List.replicate (1 + s.frameSize + 1) 0xFF) s t ∧
      t.miso = r ∧
      t.hostbuf = (if st = .sectorCountData then s.hostbuf else s.hostbuf.writeFrom (blockSize * s.block) payload) ∧
      t.csdReg = (if st = .sectorCountData then csdPut s.csdReg 0 payload else s.csdReg) ∧
      retire t = .next
        (afterFrame (if s.crcOn = true ∧ (hi ++ lo : BitVec 16) ≠ crc16 payload then .dataCrcError else .ok) t) := by
  obtain ⟨b, bs, rfl⟩ := List.exists_cons_of_length_pos (hlen ▸ s.frameSize_pos)
  obtain ⟨u, hfirst, huseq, hurx, humiso, hidx, hbuf, hcsd, hcrc⟩ := firstByte_received hb hseq hrx hm
  have hub : u.busy = true := (hfirst.field State.busy).trans hb
  have hsize : u.frameSize = s.frameSize := hfirst.field State.frameSize
  have hblock : u.block = s.block := hfirst.field State.block
  have hcfg : u.cfg = s.cfg := hfirst.field State.cfg
  have haddr : u.payloadAddr = blockSize * s.block := by rw [State.payloadAddr, hblock, hidx]; rfl
  have hwhere : u.seq.stage = st := by rw [huseq]
  obtain ⟨v, hpayload, hv, hvrx, hvmiso, hkept⟩ := payload_kept hub huseq humiso
    (by rw [hidx, hsize, ← hlen, List.length_cons, Nat.zero_add]) (by rwa [hsize, hblock, hcfg])
  have hon : v.crcOn = s.crcOn := (hpayload.field State.crcOn).trans (hfirst.field State.crcOn)
  obtain ⟨t, htrailer, htmiso, htbuf, htcsd, hretire⟩ := trailer_compared ((hpayload.field State.busy).trans hub) hv hvmiso
  have hall := (hfirst.fill_trans hpayload).fill_trans htrailer
  rw [← List.length_cons, hlen] at hall
  refine ⟨t, hall, htmiso, ?_, ?_, ?_⟩
  · rw [htbuf, hkept.hostbuf, hwhere, hbuf, haddr, hurx]
  · rw [htcsd, hkept.csdReg, hwhere, hcsd, hidx, hurx]
  · rw [hretire, hvrx, hon, hkept.crc16r, hurx, hcrc]
    cases s.crcOn <;> rfl

end Received

/-! ### The two kinds of frames -/

theorem sameSession_of_offPayload {s t : State} (h : t.offPayload = s.offPayload) (hcsd : t.csdReg = s.csdReg) :
    s.sameSession t :=
  ⟨(congrArg State.lifecycle h :), (congrArg State.blockAddr h :), (congrArg State.crcOn h :), (congrArg State.legacy h :),
    (congrArg State.scValid h :), (congrArg State.scValue h :), hcsd, (congrArg State.cs h :), (congrArg State.clkFast h :)⟩

theorem sameHostSide_of_offPayload {s t : State} (h : t.offPayload = s.offPayload) : s.sameHostSide t :=
  ⟨(congrArg State.cfg h :), (congrArg State.opcode h :), (congrArg State.sector h :), (congrArg State.count h :),
    (congrArg State.len h :), (congrArg State.latOp h :), (congrArg State.latSector h :), (congrArg State.latCount h :),
    (congrArg State.latLen h :), (congrArg State.inputs h :), (congrArg State.cd h :), (congrArg State.rdata h :)⟩

/-- A sector is received only where its block fits HOSTBUF (R220, R221). -/
theorem readBlock_fits {s : State} {st : Stage} (hi : s.Inv) (hb : s.busy = true) (hseq : s.seq = ⟨st, .tokWait, true⟩)
    (hst : st = .readBlockData ∨ st = .readBlocksData) : blockSize * s.block + blockSize ≤ s.cfg.hostbufSize := by
  obtain ⟨-, hpos⟩ := hi.position hb
  rcases hst with rfl | rfl
  · have hsize := hi.config
    simp only [Config.wf, Bool.and_eq_true, decide_eq_true_eq] at hsize
    simp only [State.block, hseq, blockSize]
    omega
  · simp only [State.positionOk, hseq] at hpos
    obtain ⟨-, -, ⟨-, hmulti⟩, hidx⟩ := hpos
    simp only [State.block, hseq, blockSize]
    omega

/-- Settles O43: `frame_received` for a sector, its bytes read back from HOSTBUF by `Mem.read_writeFrom`. -/
theorem sectorFrameReceived : Obligations.SectorFrameReceived := by
  intro st payload hi lo r s hinv hb hseq hst hrx hlen hm
  have hcsd : st ≠ .sectorCountData := by rcases hst with rfl | rfl <;> decide
  have hsize : s.frameSize = 512 := by rcases hst with rfl | rfl <;> simp only [State.frameSize, hseq] <;> rfl
  have hblock : s.block = if st = .readBlocksData then s.blkIdx else 0 := by
    rcases hst with rfl | rfl <;> simp only [State.block, hseq] <;> rfl
  have hfits := readBlock_fits hinv hb hseq hst
  obtain ⟨t, hrun, hmiso, hbuf, hreg, hretire⟩ :=
    frame_received hb hseq hrx hm (hlen.trans hsize.symm) (.inl (hsize ▸ hfits))
  rw [hsize, Stage.byteSteps, if_neg hcsd, show 1 + 2 * 512 + 1 = 2 * 512 + 2 from rfl,
    show 1 + 512 + 1 = 514 from rfl] at hrun
  have hxchgs := hrun.xchgs
  rw [List.length_replicate] at hxchgs
  rw [if_neg hcsd, hblock] at hbuf
  rw [if_neg hcsd] at hreg
  have hread (x : Nat) := hbuf ▸ Mem.read_writeFrom hinv.memory.1 _ payload x
  rw [hlen] at hread
  refine ⟨t, hrun.run, hxchgs, hmiso, hrun.sent, fun i hi => ?_, fun x hx => ?_, sameSession_of_offPayload hrun.kept hreg,
    sameHostSide_of_offPayload hrun.kept, hrun.field State.blkIdx, hrun.field State.attempt, hretire⟩
  · refine (hread _).trans ((if_pos ⟨Nat.le_add_right .., Nat.add_lt_add_left hi _⟩).trans ?_)
    rw [blockSize, Nat.add_sub_cancel_left]
  · exact (hread x).trans (if_neg fun h => by simp only [blockSize] at h; omega)

/-- Settles O59: `frame_received` for the CSD, whose image is the whole register. -/
theorem csdFrameReceived : Obligations.CsdFrameReceived := by
  intro image hi lo r s hb hseq hrx hlen hm
  have hsize : s.frameSize = 16 := by simp only [State.frameSize, hseq]; rfl
  obtain ⟨t, hrun, hmiso, hbuf, hreg, hretire⟩ := frame_received hb hseq hrx hm (hlen.trans hsize.symm) (.inr rfl)
  rw [hsize] at hrun
  refine ⟨t, hrun.run, hrun.xchgs, hmiso, hrun.sent, ?_, hbuf, hrun.field State.lifecycle, hrun.field State.blockAddr,
    hrun.field State.crcOn, hrun.field State.legacy, hrun.field State.scValid, hrun.field State.scValue, hrun.field State.cs,
    hrun.field State.clkFast, sameHostSide_of_offPayload hrun.kept, hretire⟩
  have himage : t.csdReg = csdPut s.csdReg 0 image := hreg
  rw [himage, csdPut_toList (by omega), hlen, List.drop_of_length_le (by rw [Vector.length_toList]), List.append_nil]
  rfl

end Sys2Proof.Machine
end

section
/-! PROOFS. The checks of a status byte (O8), and what the command engine does with a byte of a response: the poll (O26), the
status byte of an initialization command (O21), CMD58's response (O24). -/

namespace Sys2Proof.Machine

/-! ### The checks -/

/-- No status byte came: bit 7 is set (R152). -/
theorem bit7_iff (r : Byte) : r.getLsbD 7 = true ↔ 0x80 ≤ r.toNat := by
  revert r; decide

/-- A status byte without an error bit is 0x00 or 0x01 (R90). -/
theorem noErrorBit_iff {b : Byte} (h : b.getLsbD 7 = false) : b &&& 0x7E = 0 ↔ b = 0x00 ∨ b = 0x01 := by
  revert b; decide

theorem initCheck_status {b : Byte} (h : b.getLsbD 7 = false) :
    initCheck b = if b = 0x00 ∨ b = 0x01 then .ok else mapErrBits b := by
  simp only [initCheck, h, Bool.false_eq_true, if_false, ne_eq, ite_not, noErrorBit_iff h]

/-- The masks of the error bits `MapErrBits` reads (R90, R157). -/
theorem errorMask_iff (r : Byte) :
    (r &&& 0x08 = 0 ↔ r.getLsbD 3 = false) ∧ (r &&& 0x60 = 0 ↔ r.getLsbD 6 = false ∧ r.getLsbD 5 = false) ∧
      (r &&& 0x68 = 0 ↔ r &&& 0x08 = 0 ∧ r &&& 0x60 = 0) := by
  revert r; decide

/-- `MapErrBits` with its rows in their order, by masks (R157). -/
theorem mapErrBits_eq (r : Byte) :
    mapErrBits r =
      if r &&& 0x08 ≠ 0 then .commandCrcError else if r &&& 0x60 ≠ 0 then .parameterOutOfRange else .commandRejected := by
  obtain ⟨hcrc, hparam, -⟩ := errorMask_iff r
  simp only [mapErrBits, ne_eq, hcrc, hparam, not_and_or, Bool.not_eq_false]

/-- Settles O8: both checks by bit 7 (`bit7_iff`), and the rows of `mapErrBits_eq`. -/
theorem statusByteChecks : Obligations.StatusByteChecks := by
  refine ⟨fun r => ?_, fun r => ?_, fun r => ⟨fun h => ?_, fun ⟨h, h'⟩ => ?_, fun h => ?_⟩, rfl, rfl, rfl, rfl⟩
  · by_cases h7 : r.getLsbD 7 = true
    · rw [initCheck_noStatus h7, if_pos ((bit7_iff r).1 h7)]
    · rw [initCheck_status (Bool.eq_false_of_not_eq_true h7), if_neg fun h => h7 ((bit7_iff r).2 h)]
  · exact if_congr (bit7_iff r) rfl rfl
  · rw [mapErrBits_eq, if_pos h]
  · rw [mapErrBits_eq, if_neg (not_not_intro h), if_pos h']
  · obtain ⟨-, -, hnone⟩ := errorMask_iff r
    obtain ⟨hcrc, hparam⟩ := hnone.1 h
    rw [mapErrBits_eq, if_neg (not_not_intro hcrc), if_neg (not_not_intro hparam)]

/-! ### The poll -/

theorem extended_iff (st : Stage) : st.extended = true ↔ st ∈ [.initVcheck, .initOcr, .initCap] := by
  cases st <;> simp [Stage.extended]

/-- Settles O26: the moves after the packet, the gap and each poll (`moveOn`), and its exchange (`issue_fill`). -/
theorem pollProcedure : Obligations.PollProcedure := by
  refine ⟨fun s hd => ⟨fun hp hst => ?_, fun hp => ?_⟩, fun k s hd hp => ?_, fun k s hd hp => ?_, fun r s => ?_,
    fun r h7 => ⟨initCheck_noStatus h7, xferCheck_noStatus h7⟩⟩
  · rw [retire_eq_moveOn hd]
    simp only [moveOn, advance, hp, afterPacketByte, if_neg hst]
    rfl
  · rw [retire_eq_moveOn hd]
    simp only [moveOn, advance, hp]
  · exact issue_fill hd (by simp only [toSend, hp])
  · rw [retire_poll hd hp, statusReceived, pollAgain]
    by_cases h7 : s.rx.getLsbD 7 = false
    · rw [if_pos h7, if_pos (.inl h7)]
    by_cases hk : k < 8
    · rw [if_neg h7, r1Poll, if_pos hk, if_neg fun h => h.elim h7 (Nat.not_le_of_lt hk)]
    · rw [if_neg h7, r1Poll, if_neg hk, if_pos (.inr (Nat.le_of_not_lt hk))]
  · simp only [pollReturns, extended_iff]

/-! ### The status byte of an initialization command -/

/-- A check of INITIALIZE that splits on the status byte having no error bit. -/
theorem requireInit_status {b : Byte} (h : b.getLsbD 7 = false) (k : State → State) (s : State) :
    requireInit (initCheck b) k s = if b = 0x00 ∨ b = 0x01 then k s else raisesInit (mapErrBits b) s := by
  rw [requireInit, initCheck_status h]
  by_cases hb : b = 0x00 ∨ b = 0x01
  · rw [if_pos hb, if_pos rfl, if_pos hb]
  · rw [if_neg hb, if_neg (mapErrBits_ne_ok b), if_neg hb]

theorem accepted_eq (b : Byte) : accepted b = decide (b = 0x00 ∨ b = 0x01) :=
  Bool.eq_iff_iff.2 ((accepted_iff b).trans decide_eq_true_iff.symm)

/-- The status byte of an extended response is followed by the trailing bytes (R154). -/
theorem exec_resp1_extended {s : State} {st : Stage} {k : Nat} (hseq : s.seq = ⟨st, .poll k, true⟩) (he : st.extended = true)
    (p a e c l r i : Bool) :
    exec (.resp1 p a e c l r i) s = .next { s with resp := statusByte p a e c l r i, seq := ⟨st, .ext 1 0, false⟩ } := by
  have hat : s.atPoll = true := by rw [State.atPoll, hseq]; rfl
  have hret : pollReturns (statusByte p a e c l r i) s = State.due (.ext 1 0) { s with resp := statusByte p a e c l r i } := by
    rw [pollReturns, hseq, if_pos ⟨statusByte_bit7 .., he⟩]
  refine (congrArg Host.Outcome.next (if_pos hat)).trans (congrArg _ (hret.trans ?_))
  rw [State.due, hseq]

/-- After ACMD41's status byte: 0x00 ends the wait, 0x01 leads to the deadline check (R190). -/
theorem afterOpCond_status {s : State} (h : s.resp.getLsbD 7 = false) :
    afterOpCond s =
      if s.resp = 0x00 then sendCommand .initCap 58 0 s
      else if s.resp = 0x01 then s.due .opCheck
      else raisesInit (mapErrBits s.resp) s := by
  rw [afterOpCond, requireInit_status h]
  by_cases h0 : s.resp = 0x00
  · rw [if_pos (.inl h0), if_pos h0, if_pos h0]
  by_cases h1 : s.resp = 0x01
  · rw [if_pos (.inr h1), if_neg h0, if_neg h0, if_pos h1]
  · rw [if_neg fun h => h.elim h0 h1, if_neg h0, if_neg h1]

/-- Settles O21: the status byte ends the poll, and the step of the initialization goes by its check. -/
theorem statusByteInInit : Obligations.StatusByteInInit := by
  refine ⟨fun p a e c l r i k s u b hb hu => ?_, fun p a e c l r i k st s hs hst => ?_⟩
  · subst hu
    have h7 : b.getLsbD 7 = false := by rw [hb]; exact statusByte_bit7 ..
    refine ⟨fun hs => ?_, fun hs => ?_, fun hs => ?_, fun hs => ?_, fun hs => ?_⟩ <;>
      rw [exec_resp1_poll hs rfl, ← hb] <;> refine congrArg _ ?_ <;> simp only [afterCommand, hs]
    · rfl
    · rw [afterCrcen, accepted_eq]
    · exact requireInit_status h7 ..
    · exact afterOpCond_status h7
    · exact requireInit_status h7 ..
  · rcases hst with rfl | rfl | rfl <;> exact exec_resp1_extended hs rfl ..

/-! ### CMD58's response -/

/-- CMD58's response is complete, and its caller goes on (R154). -/
theorem exec_resp3_extEnd {s : State} {st : Stage} {x : Word} (hseq : s.seq = ⟨st, .ext 4 x, true⟩) (status : BitVec 7)
    (ocr : Word) :
    exec (.resp3 status ocr) s = .next (afterCommand { s with resp := 0#1 ++ status, respx := ocr }) := by
  have hat : s.atExtEnd = true := by rw [State.atExtEnd, hseq]; rfl
  exact congrArg Host.Outcome.next (if_pos hat)

/-- A check of INITIALIZE on the seven bits of a status byte. -/
theorem requireInit_statusBits (status : BitVec 7) (k : State → State) (s : State) :
    requireInit (initCheck (0#1 ++ status)) k s =
      if status ≠ 0 ∧ status ≠ 1 then raisesInit (mapErrBits (0#1 ++ status)) s else k s := by
  have hbits : (0#1 ++ status : Byte) = 0x00 ∨ (0#1 ++ status : Byte) = 0x01 ↔ ¬(status ≠ 0 ∧ status ≠ 1) := by
    revert status; decide
  rw [requireInit_status (status_bit7 status), if_congr hbits rfl rfl, ite_not]

/-- The voltage bit of the OCR (R189). -/
theorem ocrVoltMask_iff (ocr : Word) : ocr &&& ocrVoltMask = 0 ↔ ocr.getLsbD 20 = false := by
  rw [show ocrVoltMask = BitVec.twoPow 32 20 from rfl, BitVec.and_twoPow]
  cases ocr.getLsbD 20 with
  | false => exact iff_of_true rfl rfl
  | true => exact iff_of_false (by decide) Bool.noConfusion

/-- Settles O24: the response is complete (`exec_resp3_extEnd`), the status is checked, then the OCR's bit. -/
theorem ocrResponse : Obligations.OcrResponse := by
  intro status ocr x s u hu
  subst hu
  refine ⟨fun hs => ?_, fun hs => ?_⟩ <;>
    rw [exec_resp3_extEnd hs] <;> refine congrArg _ ?_ <;> simp only [afterCommand, hs]
  · refine (requireInit_statusBits status ..).trans ?_
    simp only [ocrVoltMask_iff]
    rfl
  · refine (requireInit_statusBits status ..).trans ?_
    cases ocr.getLsbD 30 <;> rfl

end Sys2Proof.Machine
end

section
/-! PROOFS. Presence, Teardown and INITIALIZE from their entries: CARD_PRESENT and TEARDOWN (O34), how INITIALIZE begins (O35) and
how it ends (O36). -/

namespace Sys2Proof.Machine

/-! ### Teardown, from the move into it (R200) -/

/-- Teardown has made its two output changes; the session still stands. -/
def outputsDown (k : AfterTeardown) (u : State) : State :=
  { u with cs := false, clkFast := false, seq := ⟨.tearingDown k, .tdClk, true⟩ }

/-- Teardown has completed the operation with `e`. -/
def teardownEnd (e : Err) (u : State) : State :=
  complete e 0
    { clearSession u with cs := false, clkFast := false, seq := ⟨.tearingDown (.complete e), .finish e 0, false⟩ }

theorem teardownEnd_completed (e : Err) (u : State) : (teardownEnd e u).completed e 0 := ⟨rfl, rfl, ite_self 0, rfl⟩

theorem teardownEnd_noSession (e : Err) (u : State) : (teardownEnd e u).noSession := ⟨rfl, rfl, rfl, rfl, rfl, rfl, rfl, rfl⟩

theorem teardownEnd_noExchange (e : Err) (u : State) : u.noExchange (teardownEnd e u) := ⟨rfl, rfl, rfl⟩

/-- Two steps change the outputs, from rest or with the first change due. -/
theorem outputsDown_run {s u : State} {k : AfterTeardown} (hb : s.busy = true) (hr : retire s = .next (beginTeardown k u))
    (hbu : u.busy = true) : turns 2 s = .next (outputsDown k u) := by
  have hcs : turn s = .next (setCs false (beginTeardown k u)) := by rw [turn_busy hb, hr, andThen_next]; rfl
  exact turns_of_turn hcs (turns_of_turn (n := 0) (turn_tdCs hbu rfl) rfl)

/-- The third step clears the session and completes. -/
theorem teardownEnd_run {s u : State} {e : Err} (hb : s.busy = true) (hr : retire s = .next (beginTeardown (.complete e) u))
    (hbu : u.busy = true) : turns 3 s = .next (teardownEnd e u) := by
  rw [turns_add 2 1, outputsDown_run hb hr hbu, andThen_next]
  exact turns_of_turn (turn_tdClk hbu rfl) rfl

/-! ### CARD_PRESENT and TEARDOWN -/

/-- A move to `Present()` samples the card-detect input in that step (R124). -/
theorem turn_samplePresent {s u : State} (hb : s.busy = true) (hd : s.seq.done = true) (hmove : moveOn s = u)
    (hp : u.seq.point = .present) : turn s = .next (samplePresent u) := by
  rw [turn_at_rest hd hb, hmove, issue_perform (by rw [toSend, hp]), perform, hp]

/-- A `CTRL` write to an idle block starts the operation its opcode names (R22, R31). -/
theorem step_starts {s : State} {r : List Input} {v : Word} {st : Stage} (hin : s.inputs = .write 0 v :: r) (hb : s.busy = false)
    (hop : startStage (v.extractLsb' 0 8) = st) :
    step s = .next
      { s with
        inputs := r
        opcode := v.extractLsb' 0 8
        latOp := v.extractLsb' 0 8
        latSector := s.sector
        latCount := s.count
        latLen := s.len
        busy := true
        seq := ⟨st, .start, true⟩ } := by
  rw [step_write hin, hostWrite_ctrl, hop]
  exact congrArg _ (start_idle _ _ hb)

theorem startStage_cardPresent (op : BitVec 8) : op.setWidth 32 = 1#32 → startStage op = .cardPresent := by
  revert op; decide

theorem startStage_teardownOp (op : BitVec 8) : op.setWidth 32 = 9#32 → startStage op = .teardownOp := by
  revert op; decide

section CardPresent
variable {u : State} (hseq : u.seq = ⟨.cardPresent, .start, true⟩)
include hseq

/-- After `Present()` (R198): 1, or Teardown. -/
theorem moveOn_cardPresent :
    moveOn (samplePresent (u.due .present)) =
      if u.cd then returns 1 (samplePresent (u.due .present))
      else beginTeardown (.complete .ok) (samplePresent (u.due .present)) := by
  have hs : (samplePresent (u.due .present)).seq = ⟨.cardPresent, .present, true⟩ := by
    rw [samplePresent_seq, State.due_seq, hseq]
  rw [moveOn, advance, hs]; dsimp only
  rw [afterPresent, hs]; rfl

variable (hb : u.busy = true)
include hb

theorem turn_cardPresent : turn u = .next (samplePresent (u.due .present)) :=
  turn_samplePresent hb (by rw [hseq]) (by rw [moveOn, advance, hseq]; dsimp only; rw [entry, hseq]) rfl

theorem cardPresent_present (hcd : u.cd = true) :
    turns 2 u = .next (complete .ok 1 ((samplePresent (u.due .present)).due (.finish .ok 1))) :=
  turns_of_turn (turn_cardPresent hseq hb) <| turns_of_turn (n := 0)
    (turn_finish (s := samplePresent (u.due .present)) hb rfl ((moveOn_cardPresent hseq).trans (if_pos hcd))) rfl

theorem cardPresent_absent (hcd : u.cd = false) :
    turns 4 u = .next (teardownEnd .ok (samplePresent (u.due .present))) := by
  have hmove := (moveOn_cardPresent hseq).trans (if_neg (ne_true_of_eq_false hcd))
  refine turns_of_turn (turn_cardPresent hseq hb) (teardownEnd_run hb ?_ hb)
  rw [retire_eq_moveOn rfl, hmove]

end CardPresent

/-- Settles O34: the `CTRL` write starts the operation (`step_starts`); one step samples presence, and the next completes or begins
Teardown, whose single steps TEARDOWN shows. -/
theorem presenceAndTeardown : Obligations.PresenceAndTeardown := by
  intro s r v hin hb
  rw [ctrl_and_eq]
  refine ⟨fun hv => ?_, fun hv => ?_⟩
  · have hstep := step_starts hin hb (startStage_cardPresent _ hv)
    refine ⟨_, hstep, rfl, fun hcd => ⟨_, cardPresent_present rfl rfl hcd, ?_⟩, fun hcd => ⟨_, cardPresent_absent rfl rfl hcd, ?_⟩⟩
    · exact ⟨⟨rfl, rfl, rfl, rfl⟩, ⟨rfl, rfl, rfl, rfl, rfl, rfl, rfl, rfl, rfl⟩, ⟨rfl, rfl, rfl⟩, rfl⟩
    · exact ⟨teardownEnd_completed _ _, teardownEnd_noSession _ _, ⟨rfl, rfl, rfl⟩, rfl, rfl⟩
  · have hstep := step_starts hin hb (startStage_teardownOp _ hv)
    refine ⟨_, _, _, _, hstep, rfl, turn_beginTeardown rfl rfl rfl, rfl, rfl, rfl, turn_tdCs rfl rfl, rfl, rfl, rfl,
      turn_tdClk rfl rfl, teardownEnd_completed _ _, teardownEnd_noSession _ _, ⟨rfl, rfl, rfl⟩, rfl, rfl, ?_⟩
    exact ⟨rfl, rfl, rfl, rfl, rfl, rfl, rfl, rfl, rfl, rfl, rfl, rfl⟩

/-! ### INITIALIZE up to its first command (R181-R185) -/

/-- The session is torn down and presence sampled (R181, R182). -/
def detected (s : State) : State :=
  { clearSession s with cs := false, clkFast := false, pval := s.cd, seq := ⟨.initStart, .present, true⟩ }

section InitStart
variable {s : State} (hb : s.busy = true) (hseq : s.seq = ⟨.initStart, .start, true⟩)
include hb hseq

/-- Three steps, which exchange no byte. -/
theorem detected_run : Sends State.cfg 3 [] s (detected s) := by
  have hmove : moveOn s = beginTeardown .detect s := by rw [moveOn, advance, hseq]; dsimp only; rw [entry, hseq]
  have hcs : Sends State.cfg 1 [] s (setCs false (beginTeardown .detect s)) :=
    .silent (turn_beginTeardown hb (by rw [hseq]) hmove) ⟨rfl, rfl, rfl⟩ rfl
  have hclk : Sends State.cfg 1 [] (setCs false (beginTeardown .detect s)) (outputsDown .detect s) :=
    .silent (turn_tdCs hb rfl) ⟨rfl, rfl, rfl⟩ rfl
  have hpresent : Sends State.cfg 1 [] (outputsDown .detect s) (detected s) :=
    .silent (turn_samplePresent (u := (clearSession (outputsDown .detect s)).enter .initStart .present) hb rfl rfl rfl)
      ⟨rfl, rfl, rfl⟩ rfl
  exact (hcs.trans hclk).trans hpresent

theorem initialize_absent (hcd : s.cd = false) : turns 6 s = .next (teardownEnd .noCard (detected s)) := by
  have hmove : moveOn (detected s) = beginTeardown (.complete .noCard) (detected s) := if_neg (ne_true_of_eq_false hcd)
  rw [turns_add 3 3, (detected_run hb hseq).run, andThen_next]
  exact teardownEnd_run hb ((retire_eq_moveOn rfl).trans (congrArg _ hmove)) hb

end InitStart

/-- A move to a dummy byte sends it: 0xFF (R183). -/
theorem dummy_sent {s : State} {st : Stage} {p : Point} {k : Nat} (hb : s.busy = true) (hseq : s.seq = ⟨st, p, true⟩)
    (hmove : moveOn s = s.due (.dummy k)) :
    ∃ u, Sends State.offWire 1 [0xFF] s u ∧ u.seq = ⟨st, .dummy k, true⟩ ∧ u.mosi = 0xFF :=
  ⟨xchg fillByte (s.due (.dummy k)), .exchange hb (by rw [hseq]) hmove (issue_fill rfl rfl) rfl,
    by rw [xchg_seq, State.due_seq, hseq], rfl⟩

/-- After dummy byte `k` (R183, R184). -/
theorem moveOn_dummy {s : State} {st : Stage} {k : Nat} (hseq : s.seq = ⟨st, .dummy k, true⟩) :
    moveOn s = s.due (if k < 10 then .dummy (k + 1) else .csAssert) := by
  rw [moveOn, advance, hseq]
  exact (apply_ite s.due ..).symm

/-- The first `k` dummy bytes, from the state in which the card was found. -/
theorem dummies_sent {s : State} (hb : s.busy = true) (hseq : s.seq = ⟨.initStart, .present, true⟩) (hp : s.pval = true)
    {k : Nat} (h1 : 1 ≤ k) (h10 : k ≤ 10) :
    ∃ u, Sends State.offWire k (List.replicate k 0xFF) s u ∧ u.seq = ⟨.initStart, .dummy k, true⟩ ∧ u.mosi = 0xFF := by
  induction k, h1 using Nat.le_induction with
  | base =>
    refine dummy_sent hb hseq ?_
    rw [moveOn, advance, hseq]; dsimp only
    rw [afterPresent, hseq]
    exact if_pos hp
  | succ k h1 ih =>
    obtain ⟨u, hrun, hu, -⟩ := ih (by omega)
    have hmove := (moveOn_dummy hu).trans (by rw [if_pos (by omega)])
    obtain ⟨t, hone, ht, hmosi⟩ := dummy_sent ((hrun.field State.busy).trans hb) hu hmove
    exact ⟨t, List.replicate_succ' ▸ hrun.trans hone, ht, hmosi⟩

/-- After the tenth dummy byte chip select is asserted (R184). -/
theorem turn_lastDummy {s : State} {st : Stage} (hb : s.busy = true) (hseq : s.seq = ⟨st, .dummy 10, true⟩) :
    turn s = .next (setCs true (s.due .csAssert)) := by
  rw [turn_at_rest (by rw [hseq]) hb, moveOn_dummy hseq]; rfl

/-- The step after chip select sends CMD0's first byte as attempt 1 (R185). -/
theorem cmd0_sent {s : State} (hb : s.busy = true) (hseq : s.seq = ⟨.initStart, .csAssert, true⟩) :
    turn s = .next (sendPacket (beginReset s).pkt (beginReset s)) := by
  have hmove : moveOn s = beginReset s := by rw [moveOn, advance, hseq]
  obtain ⟨i, hdec, -⟩ := decode_commandOf (u := beginReset s) rfl Stage.noConfusion
  have hpkt : (beginReset s).pkt = frame (beginReset s).cfg.crcEnable 0 0 := sendCommand_pkt ..
  rw [← hpkt] at hdec
  rw [turn_at_rest (by rw [hseq]) hb, hmove, issue_packet rfl hdec]

/-- Settles O35: three silent steps to presence (`detected_run`); without a card Teardown again, with one the dummy bytes
(`dummies_sent`), chip select and CMD0's first byte. -/
theorem initializeBegins : Obligations.InitializeBegins := by
  intro s hb hseq
  have hdetect := detected_run hb hseq
  refine ⟨fun hcd => ?_, fun hcd k h1 h10 => ?_, fun hcd => ?_⟩
  · have hno := teardownEnd_noExchange .noCard (detected s)
    exact ⟨_, initialize_absent hb hseq hcd, teardownEnd_completed _ _, teardownEnd_noSession _ _,
      ⟨hno.xchgs, hno.miso, hno.mosi⟩⟩
  · obtain ⟨u, hrun, hu, hmosi⟩ := dummies_sent (s := detected s) hb rfl hcd h1 h10
    have hall := hdetect.trans (hrun.map State.cfg)
    refine ⟨u, hall.run, hu, hrun.field State.cs, hrun.field State.clkFast, hmosi, ?_⟩
    rw [hall.xchgs, List.nil_append, List.length_replicate]
  · obtain ⟨u, hrun, hu, -⟩ := dummies_sent (s := detected s) (k := 10) hb rfl hcd (by decide) (by decide)
    have hbu : u.busy = true := (hrun.field State.busy).trans hb
    have hassert : Sends State.cfg 1 [] u (setCs true (u.due .csAssert)) :=
      .silent (turn_lastDummy hbu hu) ⟨rfl, rfl, rfl⟩ rfl
    have hall := (hdetect.trans (hrun.map State.cfg)).trans hassert
    have ht : (setCs true (u.due .csAssert)).seq = ⟨.initStart, .csAssert, true⟩ := by rw [setCs_seq, State.due_seq, hu]
    refine ⟨_, hall.run, ht, hbu, hrun.field State.lifecycle, hrun.field State.blockAddr, hrun.field State.crcOn,
      hrun.field State.legacy, hrun.field State.scValid, hrun.field State.scValue, rfl, hrun.field State.clkFast, hall.xchgs,
      hall.miso, hall.sent, _, cmd0_sent hbu ht, rfl, rfl, ?_, ?_⟩
    · show packetByte (frame _ 0 0) 0 = 0x40
      rw [frame_eq_packet, packetByte_zero]; rfl
    · rw [← hall.kept]; rfl

/-! ### INITIALIZE's end -/

/-- Settles O36: the due `SetClk(FAST)`, then the completion; a raised error is a move into Teardown (`teardownEnd_run`). -/
theorem initializeEnds : Obligations.InitializeEnds := by
  refine ⟨fun s hb hseq => ?_, fun e s u hb hr hbu => ?_⟩
  · have hclk : turn s = .next (setClk true s) := by
      rw [turn_due (by rw [hseq]) hb, issue_perform (by rw [toSend, hseq]), perform, hseq]
    have hmove : moveOn (setClk true s) = afterReady (setClk true s) := by rw [moveOn, advance, setClk_seq, hseq]
    refine ⟨_, turns_of_turn hclk (turns_of_turn (n := 0) (turn_finish hb rfl hmove) rfl), ?_⟩
    exact ⟨⟨rfl, rfl, rfl, rfl⟩, rfl, rfl, rfl, rfl, rfl, rfl, ⟨rfl, rfl, rfl⟩, rfl⟩
  · exact ⟨_, teardownEnd_run hb hr hbu, teardownEnd_completed e u, teardownEnd_noSession e u, teardownEnd_noExchange e u, rfl⟩

end Sys2Proof.Machine
end

section
/-! PROOFS. The waits with a deadline, byte by byte (O27, O28), and what their callers do with a frame (O29) and with a busy result
(O30). -/

namespace Sys2Proof.Machine

/-! ### The waits -/

/-- A due `Now()` samples the time input (R123). -/
theorem issue_sampleNow {s : State} (hd : s.seq.done = false) (hp : s.seq.point.samplesTime = true) :
    issue s = .next (sampleNow s) := by
  obtain ⟨-, -, -, -, -, hnow⟩ := duePrimitivesAndTime.1 s hd
  refine hnow ?_
  cases h : s.seq.point <;> rw [h] at hp
  case opDeadline | opCheck | tokDeadline | tokCheck | busyDeadline | busyCheck => decide
  all_goals cases hp

/-- The bytes 0x01 to 0x0F by their high bits (R98). -/
theorem highNibble_iff (b : Byte) : b.extractLsb' 4 4 = 0 ↔ b &&& 0xF0 = 0 := by
  revert b; decide

/-- Bit 3 of a read-error token decides (R222, R287). -/
theorem readErrorToken_eq (b : Byte) :
    readErrorToken (b.extractLsb' 0 4) = if b.getLsbD 3 then .parameterOutOfRange else .cardInternalError := by
  revert b; decide

/-- Settles O27: the wait's exchange and its two time samples, and the moves after each (`tokenReceived` after a byte). -/
theorem tokenWaitProcedure : Obligations.TokenWaitProcedure := by
  refine ⟨fun s hd => ⟨fun hp => ?_, fun hp => ?_⟩, fun s hd => ⟨fun hp => ?_, fun hp => ?_, fun hp => ?_⟩⟩
  · exact issue_fill hd (by simp only [toSend, hp])
  · exact issue_sampleNow hd (by rcases hp with hp | hp <;> rw [hp] <;> rfl)
  · rw [retire_eq_moveOn hd, moveOn, advance, hp]
  · rw [retire_tokWait hd hp]
    simp only [tokenReceived, highNibble_iff, readErrorToken_eq]
    rfl
  · rw [retire_eq_moveOn hd, moveOn, advance, hp]

/-- Settles O28: the same for the busy wait (`busyReceived` after a byte); OpCondWait's two time samples lead to CMD55 or to
Teardown. -/
theorem deadlineProcedures : Obligations.DeadlineProcedures := by
  refine ⟨fun s hd => ⟨fun hp => ?_, fun hp => ?_⟩, fun s hd => ⟨fun hp => ?_, fun hp => ?_, fun hp => ?_⟩,
    fun s hd => ⟨fun hp => ?_, fun hp => ?_⟩⟩
  · exact issue_fill hd (by simp only [toSend, hp])
  · exact issue_sampleNow hd (by rcases hp with hp | hp <;> rw [hp] <;> rfl)
  · rw [retire_eq_moveOn hd, moveOn, advance, hp]
  · exact retire_busyWait hd hp
  · rw [retire_eq_moveOn hd, moveOn, advance, hp]
  · rw [retire_eq_moveOn hd, moveOn, advance, hp]; rfl
  · rw [retire_eq_moveOn hd, moveOn, advance, hp]; rfl

/-! ### The result of a frame -/

/-- The errors after which READ_BLOCK tries again (R228). -/
theorem retryable_iff (e : Err) :
    retryable e = true ↔ e ∈ [.timeout, .dataCrcError, .commandRejected, .commandCrcError] := by
  cases e <;> decide

/-- Settles O29: `afterFrame` is the reading operation's own move, by its stage. -/
theorem frameResultHandled : Obligations.FrameResultHandled := by
  refine fun e s => ⟨fun hst => ?_, fun hst => ?_, fun hst => ?_⟩ <;> simp only [afterFrame, hst]
  · simp only [afterReadBlockData, retryOrRaise, retryable_iff]
    rfl
  · rfl
  · rw [afterSectorCountData_eq, ite_not]
    rfl

/-! ### The busy result -/

theorem Err.orElse_eq (e later : Err) : e.orElse later = if e ≠ .ok then e else later := by
  cases e <;> rfl

/-- The first of three results that is not `OK` (R235). -/
theorem Err.orElse_assoc (a b c : Err) : (a.orElse b).orElse c = a.orElse (b.orElse c) := by
  cases a <;> rfl

theorem Err.orElse_eq_ok_iff (e later : Err) : e.orElse later = .ok ↔ e = .ok ∧ later = .ok := by
  cases e <;> simp [Err.orElse]

/-- The stop token that is due is sent (R95). -/
theorem issue_stopToken {s : State} (hp : s.seq.point = .tokTx tokenStop) : issue s = .next (xchg tokenStop s) := by
  have hs : toSend s = some (.tokenSend, .byte tokenStop) := by simp only [toSend, hp]
  exact issue_decoded (i := .tokenStopTran) hs (by decide)

/-- After the stop token comes one byte-time (R234). -/
theorem moveOn_stopToken {s : State} {x : Byte} (hseq : s.seq = ⟨.writeBlocksStop, .tokTx x, true⟩) :
    moveOn s = s.due .stopByte := by
  simp only [moveOn, advance, afterTokenTx, hseq]

/-- After that byte-time comes the busy wait's deadline, whatever was received (R234). -/
theorem moveOn_stopByte {s : State} {st : Stage} (hseq : s.seq = ⟨st, .stopByte, true⟩) : moveOn s = s.due .busyDeadline := by
  simp only [moveOn, advance, hseq]

/-- From the stop token on: one exchange of 0xFF, then the deadline's `Now()` (R234). -/
theorem stopByte_run {s : State} {x : Byte} (hb : s.busy = true) (hseq : s.seq = ⟨.writeBlocksStop, .tokTx x, true⟩) :
    ∃ t u, turn s = .next t ∧ t.mosi = 0xFF ∧ t.xchgs = s.xchgs + 1 ∧ t.seq = ⟨.writeBlocksStop, .stopByte, true⟩ ∧
      turn t = .next u ∧ u.seq = ⟨.writeBlocksStop, .busyDeadline, true⟩ ∧ t.noExchange u := by
  let t := xchg fillByte (s.due .stopByte)
  have ht : t.seq = ⟨.writeBlocksStop, .stopByte, true⟩ := by rw [xchg_seq, State.due_seq, hseq]
  have hturn : turn s = .next t := by
    rw [turn_at_rest (by rw [hseq]) hb, moveOn_stopToken hseq]
    exact issue_fill rfl rfl
  have hnow : turn t = .next (sampleNow (t.due .busyDeadline)) := by
    rw [turn_at_rest (s := t) (by rw [ht]) hb, moveOn_stopByte ht]
    exact issue_sampleNow rfl rfl
  refine ⟨t, _, hturn, rfl, rfl, ht, hnow, by rw [sampleNow_seq, State.due_seq, ht], ?_⟩
  constructor <;> simp

/-- Settles O30: the termination's items one by one and its two steps (`stopByte_run`); a caller of the busy wait goes by
`Err.orElse`, the first result that is an error. -/
theorem busyResultHandled : Obligations.BusyResultHandled := by
  refine ⟨fun x s => ⟨fun hseq => issue_stopToken (by rw [hseq]; rfl), fun hseq => ?_, fun hseq => ?_, fun hseq => ?_, stopByte_run⟩,
    fun eb e s => ⟨fun hst => ?_, fun hst => ?_, fun hst => ?_, fun hst => ?_⟩⟩
  · rw [retire_eq_moveOn (by rw [hseq]), moveOn_stopToken hseq]
  · exact issue_fill (by rw [hseq]) (by simp only [toSend, hseq])
  · rw [retire_eq_moveOn (by rw [hseq]), moveOn_stopByte hseq]
  · simp only [afterBusy, hst, ← Err.orElse_eq]
    rfl
  · simp only [afterBusy, hst, afterWriteBlocksData, Err.orElse_eq_ok_iff, ← Err.orElse_eq]
    rfl
  · simp only [afterBusy, hst, Err.orElse_assoc, ← Err.orElse_eq]
    rfl
  · simp only [afterBusy, hst, ← Err.orElse_eq]
    rfl

end Sys2Proof.Machine
end

section
/-! PROOFS. Whole runs of the reading operations: a command's first byte, the wait for its status byte and for the start token;
SECTOR_COUNT up to its answer or CMD9 (O39), READ_BLOCK to its completion (O45). -/

namespace Sys2Proof.Machine

/-! ### What a run keeps -/

/-- A run, and a run from where it ends. -/
theorem turns_trans {m n : Nat} {s u t : State} (h : turns m s = .next u) (h' : turns n u = .next t) :
    turns (m + n) s = .next t := by
  rw [turns_add, h, andThen_next, h']

/-- No run of the controller touches the host's side (R31, R48). -/
theorem turns_sameHostSide {n : Nat} {s t : State} (hrun : turns n s = .next t) : s.sameHostSide t := by
  induction n generalizing s with
  | zero => cases hrun; exact sameHostSide_of_outside rfl
  | succ n ih =>
    obtain ⟨u, hu, hrest⟩ := andThen_eq_next.1 hrun
    exact (controllerLeavesHostSide s u hu).1.trans (ih hrest)

/-- The session, transitively. -/
theorem State.sameSession.trans {s u t : State} (h : s.sameSession u) (h' : u.sameSession t) : s.sameSession t where
  lifecycle := h'.lifecycle.trans h.lifecycle
  blockAddr := h'.blockAddr.trans h.blockAddr
  crcOn := h'.crcOn.trans h.crcOn
  legacy := h'.legacy.trans h.legacy
  scValid := h'.scValid.trans h.scValid
  scValue := h'.scValue.trans h.scValue
  csdReg := h'.csdReg.trans h.csdReg
  cs := h'.cs.trans h.cs
  clkFast := h'.clkFast.trans h.clkFast

/-- As `State.offWire`, and what a wait with a deadline changes forgotten too (R123, R222). -/
def State.offWait (s : State) : State := { s.offWire with tval := 0, deadline := 0 }

/-- As `State.offWait`, and what an operation changes up to the response to its command forgotten too (R46, R150, R220, R227). -/
def State.offCommand (s : State) : State :=
  { s.offWait with seq := Seq.idle, pval := false, attempt := 0, pkt := 0, crc7r := 0, resp := 0 }

theorem sameSession_of_offCommand {s t : State} (h : t.offCommand = s.offCommand) : s.sameSession t :=
  ⟨(congrArg State.lifecycle h :), (congrArg State.blockAddr h :), (congrArg State.crcOn h :), (congrArg State.legacy h :),
    (congrArg State.scValid h :), (congrArg State.scValue h :), (congrArg State.csdReg h :), (congrArg State.cs h :),
    (congrArg State.clkFast h :)⟩

/-! ### A command's first byte -/

/-- A framed command that is due is decoded and its first byte exchanged (R150). -/
theorem issue_sendCommand {st : Stage} {idx : BitVec 6} {arg : Word} {x : State}
    (hcmd : (sendCommand st idx arg x).commandOf = some (idx, arg)) (hst : st ≠ .initCrcen) :
    issue (sendCommand st idx arg x) =
      .next (xchg (packetByte (frame x.cfg.crcEnable idx arg) 0) (sendCommand st idx arg x)) := by
  obtain ⟨i, hdec, -⟩ := decode_commandOf hcmd fun h => absurd h hst
  exact issue_packet (i := i) rfl hdec

/-! ### SECTOR_COUNT -/

/-- With a card SECTOR_COUNT needs a READY session, and returns a valid cache or sends CMD9 (R220, R268). -/
theorem moveOn_sectorCount {u : State} (hseq : u.seq = ⟨.sectorCount, .present, true⟩) (hp : u.pval = true) :
    moveOn u = if u.lifecycle ≠ .ready then u.due (.finish .noCard 0)
      else if u.scValid then u.due (.finish .ok u.scValue) else sendCommand .sectorCountCmd 9 0 u := by
  simp only [moveOn, advance, hseq, afterPresent, preSession, hp]
  rfl

/-- Settles O39: the first step samples presence; the second completes the operation or sends the first byte of CMD9. -/
theorem sectorCountCache : Obligations.SectorCountCache := by
  intro s hb hcd hseq
  obtain ⟨u, hu⟩ : ∃ u, u = samplePresent (s.due .present) := ⟨_, rfl⟩
  have hpresent : turn s = .next u := hu ▸ turn_start_present hb hseq (by decide)
  have hmove : moveOn u = _ := moveOn_sectorCount (by rw [hu, samplePresent_seq, State.due_seq, hseq]) (by rw [hu]; exact hcd)
  have hbu : u.busy = true := by rw [hu]; exact hb
  have hdu : u.seq.done = true := by rw [hu]; rfl
  have hsession : s.sameSession u := by rw [hu]; exact ⟨rfl, rfl, rfl, rfl, rfl, rfl, rfl, rfl, rfl⟩
  have hwire : s.noExchange u := by rw [hu]; exact ⟨rfl, rfl, rfl⟩
  have hbuf : u.hostbuf = s.hostbuf := by rw [hu]; rfl
  rw [hsession.lifecycle, hsession.scValid, hsession.scValue] at hmove
  have completes {e : Err} {v : Word} (h : moveOn u = u.due (.finish e v)) :
      ∃ t, turns 2 s = .next t ∧ t.completed e (if e = .ok then v else 0) ∧ s.sameSession t ∧ s.noExchange t ∧
        t.hostbuf = s.hostbuf :=
    ⟨_, turns_of_turn hpresent (turns_of_turn (n := 0) (turn_finish hbu hdu h) rfl), ⟨rfl, rfl, rfl, rfl⟩,
      hsession.trans ⟨rfl, rfl, rfl, rfl, rfl, rfl, rfl, rfl, rfl⟩, ⟨hwire.xchgs, hwire.miso, hwire.mosi⟩, hbuf⟩
  refine ⟨fun hr hv => ?_, fun hr hv => ?_, fun hr => ?_⟩
  · rw [if_neg (not_not_intro hr), if_pos hv] at hmove
    exact completes hmove
  · rw [if_neg (not_not_intro hr), if_neg (ne_true_of_eq_false hv)] at hmove
    have hcmd9 := turn_at_rest hdu hbu
    rw [hmove] at hcmd9
    replace hcmd9 := hcmd9.trans (issue_sendCommand rfl Stage.noConfusion)
    refine ⟨_, turns_of_turn hpresent (turns_of_turn (n := 0) hcmd9 rfl), rfl, ?_, ?_, congrArg (· + 1) hwire.xchgs,
      hsession.trans ⟨rfl, rfl, rfl, rfl, rfl, rfl, rfl, rfl, rfl⟩⟩
    · rw [hu]; rfl
    · show packetByte (frame _ 9 0) 0 = 0x49
      rw [frame_eq_packet, packetByte_zero]; rfl
  · rw [if_pos hr] at hmove
    exact completes hmove

/-! ### The status byte -/

/-- Where the sequencer makes a received byte due, one step exchanges 0xFF for the card's next byte (R100). -/
theorem fill_received {α : Type} {keep : State → α} {s u : State} {b : Byte} {r : List Byte} (hb : s.busy = true)
    (hd : s.seq.done = true) (hmove : moveOn s = u) (hsend : toSend u = some (.fillSend, .byte fillByte))
    (hm : s.miso = b :: r) (hk : keep (xchg fillByte u) = keep s) :
    Sends keep 1 [0xFF] s (xchg fillByte u) ∧ (xchg fillByte u).rx = b ∧ (xchg fillByte u).miso = r := by
  have hu : u.miso = b :: r := hm ▸ hmove ▸ (noExchange_of_outside (moveOn_outside s)).miso
  refine ⟨.exchange hb hd hmove (issue_fill (hmove ▸ (moveOn_moves s).due) hsend) hk, ?_, ?_⟩
  · simp only [xchg_rx, State.nextMiso, hu]
  · rw [xchg_miso, hu]; rfl

/-- A poll without a status byte is followed by the next one (R152). -/
theorem moveOn_noStatus {s : State} {st : Stage} {k : Nat} (hseq : s.seq = ⟨st, .poll k, true⟩) (h7 : s.rx.getLsbD 7 = true)
    (hk : k < 8) : moveOn s = s.due (.poll (k + 1)) := by
  simp only [moveOn, hseq, statusReceived, h7, Bool.true_eq_false, if_false]
  exact if_pos hk

/-- From a due poll on, the bytes without a status are passed over and the first byte after them is received (R152). -/
theorem status_polled {nos r : List Byte} {b : Byte} {k : Nat} {s : State} (hb : s.busy = true) (hd : s.seq.done = true)
    (hmove : moveOn s = s.due (.poll k)) (hno : ∀ c ∈ nos, c.getLsbD 7 = true) (hk : k + nos.length ≤ 8)
    (hm : s.miso = nos ++ b :: r) :
    ∃ t, Sends State.offWire (nos.length + 1) (List.replicate (nos.length + 1) 0xFF) s t ∧
      t.seq = ⟨s.seq.stage, .poll (k + nos.length), true⟩ ∧ t.rx = b ∧ t.miso = r := by
  induction nos generalizing s k with
  | nil =>
    obtain ⟨hone, hrx, hmiso⟩ := fill_received (keep := State.offWire) hb hd hmove rfl hm rfl
    exact ⟨_, hone, rfl, hrx, hmiso⟩
  | cons c cs ih =>
    obtain ⟨hc, hcs⟩ := List.forall_mem_cons.1 hno
    rw [List.length_cons] at hk ⊢
    obtain ⟨hone, hrx, hmiso⟩ := fill_received (keep := State.offWire) hb hd hmove rfl hm rfl
    obtain ⟨t, hrest, ht, htrx, htmiso⟩ := ih (s := xchg fillByte (s.due (.poll k))) hb rfl
      (moveOn_noStatus rfl (hrx ▸ hc) (by omega)) hcs (by omega) hmiso
    exact ⟨t, hone.cons hrest, by rw [ht, Nat.add_right_comm]; rfl, htrx, htmiso⟩

/-! ### The start token -/

/-- The due `Now()` has returned the exchanges since reset (R123). -/
def State.timed (s : State) : State := { s with tval := s.xchgs, seq := ⟨s.seq.stage, s.seq.point, true⟩ }

theorem sampleNow_eq_timed {s : State} (hbase : s.cfg.timeBase = .perExchange) : sampleNow s = s.timed :=
  (duePrimitivesAndTime.2 s).1 hbase

section TokenWait
variable {s u : State} (hb : s.busy = true) (hd : s.seq.done = true) (hbase : s.cfg.timeBase = .perExchange)

include hb hd hbase in
/-- A move to a `Now()` of the token wait samples the exchanges since reset (R123, R222). -/
theorem now_sampled {α : Type} {keep : State → α} (hmove : moveOn s = u)
    (hp : u.seq.point = .tokDeadline ∨ u.seq.point = .tokCheck) (hk : keep u.timed = keep s) :
    Sends keep 1 [] s u.timed := by
  have hdu : u.seq.done = false := hmove ▸ (moveOn_moves s).due
  have hcfg : u.cfg = s.cfg := hmove ▸ moveOn_outside_field State.cfg (fun _ => rfl) s
  have hno : s.noExchange u := hmove ▸ noExchange_of_outside (moveOn_outside s)
  refine .silent ?_ ⟨hno.xchgs, hno.miso, hno.mosi⟩ hk
  rw [turn_at_rest hd hb, hmove, issue_sampleNow hdu (by rcases hp with hp | hp <;> rw [hp] <;> rfl),
    sampleNow_eq_timed (hcfg ▸ hbase)]

/-- An idle byte leads to the deadline's check (R222). -/
theorem moveOn_idleByte {st : Stage} (hseq : s.seq = ⟨st, .tokWait, true⟩) (hrx : s.rx = 0xFF) :
    moveOn s = s.due .tokCheck := by
  simp only [moveOn, hseq, tokenReceived, hrx]
  rfl

/-- Before the deadline the wait goes on (R222). -/
theorem moveOn_beforeDeadline {st : Stage} (hseq : s.seq = ⟨st, .tokCheck, true⟩) (hdl : s.tval < s.deadline) :
    moveOn s = s.due .tokWait := by
  simp only [moveOn, advance, hseq]
  exact if_neg (Nat.not_le_of_lt hdl)

include hb hd hbase in
/-- From a due exchange of the token wait on, `w` idle bytes, each with its check of the deadline, are passed over, and the start
token is received, if the deadline is more than `w` exchanges away (R222). -/
theorem startToken_awaited {w : Nat} {r : List Byte} (hmove : moveOn s = u.due .tokWait) (hk : u.offWait = s.offWait)
    (hdl : s.xchgs + w < u.deadline) (hm : s.miso = List.replicate w 0xFF ++ 0xFE :: r) :
    ∃ n t, Sends State.offWait n (List.replicate (w + 1) 0xFF) s t ∧ t.seq = ⟨u.seq.stage, .tokWait, true⟩ ∧ t.rx = 0xFE ∧
      t.miso = r := by
  induction w generalizing s u with
  | zero =>
    obtain ⟨hone, hrx, hmiso⟩ := fill_received (keep := State.offWait) hb hd hmove rfl hm hk
    exact ⟨1, _, hone, rfl, hrx, hmiso⟩
  | succ w ih =>
    obtain ⟨hone, hrx, hmiso⟩ := fill_received (keep := State.offWait) hb hd hmove rfl hm hk
    obtain ⟨x, hx⟩ : ∃ x, x = xchg fillByte (u.due .tokWait) := ⟨_, rfl⟩
    rw [← hx] at hone hrx hmiso
    have hbx : x.busy = true := (hone.field State.busy).trans hb
    have hbasex : x.cfg.timeBase = .perExchange := (hone.field fun y => y.cfg.timeBase).trans hbase
    have hseq : x.seq = ⟨u.seq.stage, .tokWait, true⟩ := by rw [hx]; rfl
    have hdx : x.deadline = u.deadline := by rw [hx]; rfl
    have hxchgs : x.xchgs = s.xchgs + 1 := hone.xchgs
    have hcheck : Sends State.offWait 1 [] x (x.due .tokCheck).timed :=
      now_sampled hbx (by rw [hseq]) hbasex (moveOn_idleByte hseq hrx) (.inr rfl) rfl
    have hstage : x.seq.stage = u.seq.stage := by rw [hseq]
    obtain ⟨n, t, hrest, ht, htrx, htmiso⟩ := ih (s := (x.due .tokCheck).timed) hbx rfl hbasex
      (moveOn_beforeDeadline rfl (show x.xchgs < x.deadline by omega)) rfl (show x.xchgs + w < x.deadline by omega) hmiso
    refine ⟨1 + (1 + n), t, ?_, ht.trans (by rw [← hstage]; rfl), htrx, htmiso⟩
    exact hone.trans (hcheck.trans hrest)

end TokenWait

/-! ### READ_BLOCK -/

/-- With a card and a READY session READ_BLOCK of a sector that exists sends CMD17 (R220, R227). -/
theorem moveOn_readBlock {s : State} (hseq : s.seq = ⟨.readBlock, .present, true⟩) (hp : s.pval = true)
    (hready : s.lifecycle = .ready) (hsector : s.blockAddr = true ∨ s.latSector.toNat ≤ 0x007FFFFF)
    (hsize : 512 ≤ s.cfg.hostbufSize) : moveOn s = beginReadBlock s := by
  have hrange : ¬(s.blockAddr = false ∧ s.latSector.toNat > 0x007FFFFF) := fun ⟨hbyte, hhigh⟩ =>
    hsector.elim (fun h => absurd (h.symm.trans hbyte) Bool.noConfusion) (Nat.not_le_of_lt hhigh)
  have hmove : moveOn s = preTransfer beginReadBlock s := by simp only [moveOn, advance, afterPresent, hseq]
  rw [hmove, preTransfer_eq beginReadBlock (n := 1) (by rw [State.transferCount, hseq]), if_neg (by rw [hp]; decide),
    if_neg (not_not_intro hready), if_neg (by decide), if_neg hrange, if_neg (by omega)]

/-- The status byte 0x00 of CMD17 leads to the token wait (R227). -/
theorem moveOn_cmd17Accepted {s : State} {k : Nat} (hseq : s.seq = ⟨.readBlockCmd, .poll k, true⟩) (hrx : s.rx = 0x00) :
    moveOn s = State.enter .readBlockData .tokDeadline { s with resp := s.rx } := by
  have hmove : moveOn s = afterCommand { s with resp := s.rx } := by
    simp only [moveOn, hseq, statusReceived, pollReturns, Stage.extended, Bool.false_eq_true, and_false, if_false]
    exact if_pos (by rw [hrx]; rfl)
  have hok : xferCheck s.rx = .ok := by rw [hrx]; rfl
  simp only [hmove, afterCommand, hseq]
  exact if_pos hok

section ReadBlock
variable {s : State} (hb : s.busy = true)
include hb

/-- From its entry READ_BLOCK samples presence and sends the first byte of CMD17 (R220, R227). -/
theorem cmd17_sent (hseq : s.seq = ⟨.readBlock, .start, true⟩) (hcd : s.cd = true)
    (hready : s.lifecycle = .ready) (hsector : s.blockAddr = true ∨ s.latSector.toNat ≤ 0x007FFFFF)
    (hsize : 512 ≤ s.cfg.hostbufSize) :
    ∃ b t, Sends State.offCommand 2 [b] s t ∧ t.seq = ⟨.readBlockCmd, .cmdTx 0, true⟩ := by
  obtain ⟨u, hu⟩ : ∃ u, u = samplePresent (s.due .present) := ⟨_, rfl⟩
  have hpresent : Sends State.offCommand 1 [] s u :=
    hu ▸ .silent (turn_start_present hb hseq (by decide)) ⟨rfl, rfl, rfl⟩ rfl
  have hmove : moveOn u = beginReadBlock u := by
    subst hu
    exact moveOn_readBlock (by rw [samplePresent_seq, State.due_seq, hseq]) hcd hready hsector hsize
  have hcmd : Sends State.offCommand 1 [_] u _ :=
    .exchange ((hpresent.field State.busy).trans hb) (by rw [hu]; rfl) hmove (issue_sendCommand rfl Stage.noConfusion) rfl
  exact ⟨_, _, hpresent.trans hcmd, rfl⟩

/-- After the rest of a packet, with a byte each, and the bytes without a status, the status byte is received (R150, R152). -/
theorem status_received {st : Stage} {bs nos r : List Byte} {b : Byte} (hseq : s.seq = ⟨st, .cmdTx 0, true⟩)
    (hst : st ≠ .readBlocksStop) (hlen : bs.length = 5) (hno : ∀ c ∈ nos, c.getLsbD 7 = true) (hk : nos.length < 8)
    (hm : s.miso = bs ++ (nos ++ b :: r)) :
    ∃ bs' t, Sends State.offWire (5 + (nos.length + 1)) bs' s t ∧ bs'.length = 5 + (nos.length + 1) ∧
      t.seq = ⟨st, .poll (1 + nos.length), true⟩ ∧ t.rx = b ∧ t.miso = r := by
  obtain ⟨u, hpacket, hu⟩ := packet_sent (n := 5) hb hseq (by decide)
  have hmove : moveOn u = u.due (.poll 1) := by rw [moveOn_packetByte hu, if_neg (by decide), if_neg hst]
  have hmu : u.miso = nos ++ b :: r := by
    rw [hpacket.miso, hm]
    exact List.drop_left' hlen
  obtain ⟨t, hpoll, ht, hrx, hmiso⟩ := status_polled ((hpacket.field State.busy).trans hb) (by rw [hu]) hmove hno (by omega) hmu
  exact ⟨_, t, hpacket.trans hpoll, by simp, by rw [ht, hu], hrx, hmiso⟩

/-- From a status byte 0x00 of CMD17 on, the start token is received after `w` idle bytes, fewer than `T_TOKEN` (R222, R227). -/
theorem dataFrame_awaited {k w : Nat} {r : List Byte} (hbase : s.cfg.timeBase = .perExchange)
    (hseq : s.seq = ⟨.readBlockCmd, .poll k, true⟩) (hrx : s.rx = 0x00) (hw : w < s.cfg.tToken)
    (hm : s.miso = List.replicate w 0xFF ++ 0xFE :: r) :
    ∃ n t, Sends State.offCommand n (List.replicate (w + 1) 0xFF) s t ∧ t.seq = ⟨.readBlockData, .tokWait, true⟩ ∧
      t.rx = 0xFE ∧ t.miso = r := by
  let u := (State.enter .readBlockData .tokDeadline { s with resp := s.rx }).timed
  have hnow : Sends State.offCommand 1 [] s u :=
    now_sampled hb (by rw [hseq]) hbase (moveOn_cmd17Accepted hseq hrx) (.inl rfl) rfl
  have hmove : moveOn u = State.due .tokWait { u with deadline := u.tval + u.cfg.tToken } := rfl
  obtain ⟨n, t, hwait, ht, htrx, htmiso⟩ :=
    startToken_awaited (s := u) hb rfl hbase hmove rfl (Nat.add_lt_add_left hw s.xchgs) hm
  exact ⟨_, t, hnow.trans (hwait.map State.offCommand), ht, htrx, htmiso⟩

/-- READ_BLOCK from its entry to the start token of its frame (R227): CMD17's packet, the bytes without a status, the status byte
0x00, the idle bytes. -/
theorem readBlock_awaitsFrame {six nos r : List Byte} {w : Nat} (hseq : s.seq = ⟨.readBlock, .start, true⟩)
    (hcd : s.cd = true) (hready : s.lifecycle = .ready) (hbase : s.cfg.timeBase = .perExchange)
    (hsector : s.blockAddr = true ∨ s.latSector.toNat ≤ 0x007FFFFF) (hsize : 512 ≤ s.cfg.hostbufSize) (hsix : six.length = 6)
    (hnos : nos.length < 8) (hno : ∀ c ∈ nos, c.getLsbD 7 = true) (hw : w < s.cfg.tToken)
    (hm : s.miso = six ++ (nos ++ 0x00 :: (List.replicate w 0xFF ++ 0xFE :: r))) :
    ∃ n bs t, Sends State.offCommand n bs s t ∧ bs.length = 6 + (nos.length + 1) + (w + 1) ∧
      t.seq = ⟨.readBlockData, .tokWait, true⟩ ∧ t.rx = 0xFE ∧ t.miso = r := by
  obtain ⟨b, u, hfirst, hu⟩ := cmd17_sent hb hseq hcd hready hsector hsize
  have hmu : u.miso = six.drop 1 ++ (nos ++ 0x00 :: (List.replicate w 0xFF ++ 0xFE :: r)) := by
    rw [hfirst.miso, hm]
    exact List.drop_append_of_le_length (by rw [hsix, List.length_singleton]; decide)
  obtain ⟨bs, v, hstatus, hlen, hv, hrx, hmv⟩ := status_received ((hfirst.field State.busy).trans hb) hu (by decide)
    (by rw [List.length_drop, hsix]) hno hnos hmu
  have hcommand := hfirst.trans (hstatus.map State.offCommand)
  obtain ⟨n, t, hwait, ht, htrx, hmt⟩ := dataFrame_awaited ((hcommand.field State.busy).trans hb)
    ((hcommand.field fun x => x.cfg.timeBase).trans hbase) hv hrx (by rwa [show v.cfg = s.cfg from hcommand.field State.cfg]) hmv
  refine ⟨_, _, t, hcommand.trans hwait, ?_, ht, htrx, hmt⟩
  simp only [List.length_append, List.length_singleton, List.length_replicate, hlen]
  omega

/-- From the start token on, a payload with its CRC16 is stored and completes READ_BLOCK (R223, R227, R282). -/
theorem readBlock_receivesFrame {payload r : List Byte} {hi lo : Byte} (hseq : s.seq = ⟨.readBlockData, .tokWait, true⟩)
    (hrx : s.rx = 0xFE) (hsize : 512 ≤ s.cfg.hostbufSize) (hlen : payload.length = 512)
    (hm : s.miso = payload ++ hi :: lo :: r) (hcrc : (hi ++ lo : BitVec 16) = crc16 payload) :
    ∃ n t, turns n s = .next t ∧ t.completed .ok 0 ∧ t.xchgs = s.xchgs + 514 ∧ t.miso = r ∧
      t.hostbuf = s.hostbuf.writeFrom 0 payload ∧ s.sameSession t := by
  have hframe : s.frameSize = 512 := by simp only [State.frameSize, hseq]; rfl
  have hblock : s.block = 0 := by simp only [State.block, hseq]
  obtain ⟨t, hrun, hmiso, hbuf, hcsd, hretire⟩ := frame_received hb hseq hrx hm (hlen.trans hframe.symm)
    (.inl (by rw [hblock, hframe]; omega))
  have hbt : t.busy = true := (hrun.field State.busy).trans hb
  have hst : t.seq.stage = .readBlockData := (hrun.field fun x => x.seq.stage).trans (by rw [hseq])
  have hfinish : turn t = .next (complete .ok 0 (t.due (.finish .ok 0))) := by
    rw [turn_busy hbt, hretire, if_neg fun h => h.2 hcrc, afterFrame, hst]
    rfl
  have hxchgs := hrun.xchgs
  rw [hframe, List.length_replicate] at hxchgs
  rw [if_neg Stage.noConfusion, hblock] at hbuf
  have hsession : s.sameSession t := sameSession_of_offPayload hrun.kept (hcsd.trans (if_neg Stage.noConfusion))
  have hall := turns_trans hrun.run (turns_of_turn (n := 0) hfinish rfl)
  exact ⟨_, _, hall, ⟨rfl, rfl, rfl, rfl⟩, hxchgs, hmiso, hbuf,
    hsession.trans ⟨rfl, rfl, rfl, rfl, rfl, rfl, rfl, rfl, rfl⟩⟩

end ReadBlock

/-- The two bytes of a CRC field are the CRC (R64). -/
theorem be16Bytes_append (v : BitVec 16) : v.extractLsb' 8 8 ++ v.extractLsb' 0 8 = v :=
  (BitVec.extractLsb'_append_extractLsb'_eq_extractLsb' rfl).trans BitVec.extractLsb'_eq_self

/-- Settles O45: the run to the start token (`readBlock_awaitsFrame`), then the frame, which completes the operation
(`readBlock_receivesFrame`); the payload is read back by `Mem.read_writeFrom`. -/
theorem readBlockDelivers : Obligations.ReadBlockDelivers := by
  intro six nos payload r w s hi hb hcd hready hseq hbase hsector hsix hnos hno hw hlen hm
  have hsize : 512 ≤ s.cfg.hostbufSize := by
    have hwf := hi.config
    simp only [Config.wf, Bool.and_eq_true, decide_eq_true_eq] at hwf
    omega
  simp only [be16, List.append_assoc, List.cons_append, List.nil_append] at hm
  obtain ⟨n, bs, u, hwait, hbs, hu, hrx, hmu⟩ :=
    readBlock_awaitsFrame hb hseq hcd hready hbase hsector hsize hsix hnos hno hw hm
  obtain ⟨n', t, hrun, hdone, hxchgs, hmt, hbuf, hsession⟩ := readBlock_receivesFrame ((hwait.field State.busy).trans hb) hu hrx
    (by rwa [show u.cfg = s.cfg from hwait.field State.cfg]) hlen hmu (be16Bytes_append _)
  have hall := turns_trans hwait.run hrun
  rw [show u.hostbuf = s.hostbuf from hwait.field State.hostbuf] at hbuf
  have hread (x : Nat) := hbuf ▸ Mem.read_writeFrom hi.memory.1 0 payload x
  rw [hlen] at hread
  refine ⟨_, t, hall, hdone, ?_, hmt, fun i hi => ?_, fun x hx => ?_,
    (sameSession_of_offCommand hwait.kept).trans hsession, turns_sameHostSide hall⟩
  · rw [hxchgs, hwait.xchgs, hbs]
    omega
  · exact (hread i).trans (if_pos (by omega))
  · exact (hread x).trans (if_neg (by omega))

end Sys2Proof.Machine
end

section
/-! PROOFS. The CSD parser in arithmetic (O10), and CSD_PARSE over HOSTBUF (O41), which reads a byte in each of 16 steps. -/

namespace Sys2Proof.Machine

/-! ### The fields in arithmetic -/

/-- A field above one of `k` bits is added to it, times 2^k. -/
theorem shiftLeft_or_eq_add {k b : Nat} (a : Nat) (hb : b < 2 ^ k) : a <<< k ||| b = a * 2 ^ k + b := by
  rw [← Nat.shiftLeft_add_eq_or_of_lt hb, Nat.shiftLeft_eq]

section Fields
variable (c : List Byte)

theorem csdByte_lt (i : Nat) : csdByte c i < 256 := (c.getD i 0).isLt

theorem csdVersion_eq : csdVersion c = csdByte c 0 / 64 := Nat.shiftRight_eq_div_pow ..

theorem csdSizeV2_eq : csdSizeV2 c = csdByte c 7 % 64 * 65536 + csdByte c 8 * 256 + csdByte c 9 := by
  have h8 := csdByte_lt c 8
  have h9 := csdByte_lt c 9
  rw [csdSizeV2, Nat.or_assoc, shiftLeft_or_eq_add (k := 8) _ h9, shiftLeft_or_eq_add (k := 16) _ (by omega),
    Nat.and_two_pow_sub_one_eq_mod _ 6, ← Nat.add_assoc]
  rfl

theorem csdSizeV1_eq : csdSizeV1 c = csdByte c 6 % 4 * 1024 + csdByte c 7 * 4 + csdByte c 8 / 64 := by
  have h7 := csdByte_lt c 7
  have h8 := csdByte_lt c 8
  rw [csdSizeV1, Nat.or_assoc, Nat.shiftRight_eq_div_pow, shiftLeft_or_eq_add (k := 2) _ (by omega),
    shiftLeft_or_eq_add (k := 10) _ (by omega), Nat.and_two_pow_sub_one_eq_mod _ 2, ← Nat.add_assoc]
  rfl

theorem csdMult_eq : csdMult c = csdByte c 9 % 4 * 2 + csdByte c 10 / 128 := by
  have h10 := csdByte_lt c 10
  rw [csdMult, Nat.shiftRight_eq_div_pow, shiftLeft_or_eq_add (k := 1) _ (by omega), Nat.and_two_pow_sub_one_eq_mod _ 2]
  rfl

theorem csdBlLen_eq : csdBlLen c = csdByte c 5 % 16 := Nat.and_two_pow_sub_one_eq_mod _ 4

end Fields

/-! ### The three layouts -/

section Layouts
variable {c : List Byte}

/-- The version-2 layout has a size field only (R262, R263). -/
theorem csdParse_of_version_one (h : csdVersion c = 1) :
    csdParse c = if (csdSizeV2 c + 1) * 1024 ≥ 2 ^ 32 then (.parameterOutOfRange, 0)
      else (.ok, BitVec.ofNat 32 ((csdSizeV2 c + 1) * 1024)) := if_pos h

/-- The version-1 layout has a size, a multiplier and a block length (R264, R265). -/
theorem csdParse_of_version_zero (h : csdVersion c = 0) :
    csdParse c = if csdMult c + csdBlLen c < 7 then (.parameterOutOfRange, 0)
      else (.ok, BitVec.ofNat 32 ((csdSizeV1 c + 1) <<< (csdMult c + csdBlLen c - 7))) := by
  rw [csdParse, if_neg (by omega), if_pos h]

/-- The reserved versions have no layout (R266). -/
theorem csdParse_of_reserved (h : csdVersion c = 2 ∨ csdVersion c = 3) : csdParse c = (.parameterOutOfRange, 0) := by
  rw [csdParse, if_neg (by omega), if_neg (by omega)]

end Layouts

/-- Settles O10: each field is arithmetic on its bytes; each layout reads its own fields only, and each field its own bytes. -/
theorem csdParser : Obligations.CsdParser := by
  refine ⟨fun c => ?_, fun c d h0 => ?_⟩
  · rw [csdParse, csdVersion_eq, csdSizeV2_eq, csdSizeV1_eq, csdMult_eq, csdBlLen_eq, Nat.shiftLeft_eq]
    rfl
  have hversion : csdVersion d = csdVersion c := by simp only [csdVersion, csdByte, h0]
  refine ⟨fun h hread => ?_, fun h hread => ?_, fun h => ?_⟩
  · have hsize : csdSizeV2 c = csdSizeV2 d := by simp (disch := decide) only [csdSizeV2, csdByte, hread]
    rw [csdParse_of_version_one h, csdParse_of_version_one (hversion.trans h), hsize]
  · have hsize : csdSizeV1 c = csdSizeV1 d := by simp (disch := decide) only [csdSizeV1, csdByte, hread]
    have hmult : csdMult c = csdMult d := by simp (disch := decide) only [csdMult, csdByte, hread]
    have hbl : csdBlLen c = csdBlLen d := by simp (disch := decide) only [csdBlLen, csdByte, hread]
    rw [csdParse_of_version_zero h, csdParse_of_version_zero (hversion.trans h), hsize, hmult, hbl]
  · rw [csdParse_of_reserved h, csdParse_of_reserved (by rwa [hversion])]

/-! ### CSD_PARSE over HOSTBUF -/

/-- Byte `a` has been read, and the bytes before it are the operation's image so far (R267). -/
def State.csdByteRead (a : Nat) (s : State) : State :=
  { s with mval := s.hostbuf.read a, seq := ⟨.csdParse (s.bufferBytes a), .pureGet a, true⟩ }

/-- After byte `a`: the next one, or the parser's result. -/
theorem moveOn_csdByteRead (a : Nat) (s : State) :
    moveOn (s.csdByteRead a) =
      if a + 1 < 16 then State.enter (.csdParse (s.bufferBytes (a + 1))) (.pureGet (a + 1)) (s.csdByteRead a)
      else (s.csdByteRead a).due
        (.finish (csdParse (s.bufferBytes (a + 1))).1 (csdParse (s.bufferBytes (a + 1))).2) := by
  rw [bufferBytes_succ]; rfl

section Run
variable {s : State} (hb : s.busy = true) (hseq : s.seq = ⟨.csdParse [], .start, true⟩) (hsize : 16 ≤ s.cfg.hostbufSize)
include hb hseq hsize

/-- Each of 16 steps reads the next byte. -/
theorem csdBytes_read {a : Nat} (ha : a < 16) : turns (a + 1) s = .next (s.csdByteRead a) := by
  induction a with
  | zero =>
    have hmove : moveOn s = s.due (.pureGet 0) := by simp only [moveOn, advance, hseq, entry]
    refine turns_of_turn ((turn_byteDue hb (by rw [hseq]) hmove (by omega)).trans ?_) rfl
    rw [hseq]; rfl
  | succ a ih =>
    have hmove := (moveOn_csdByteRead a s).trans (if_pos ha)
    have hread : turn (s.csdByteRead a) = .next (s.csdByteRead (a + 1)) :=
      turn_byteDue (u := State.enter _ (.pureGet (a + 1)) (s.csdByteRead a)) hb rfl hmove (Nat.lt_of_lt_of_le ha hsize)
    exact turns_trans (ih (by omega)) (turns_of_turn (n := 0) hread rfl)

/-- The whole operation: the parser's result for the first 16 bytes. -/
theorem csdParse_completes :
    turns 17 s = .next (complete (csdParse (s.bufferBytes 16)).1 (csdParse (s.bufferBytes 16)).2
      ((s.csdByteRead 15).due (.finish (csdParse (s.bufferBytes 16)).1 (csdParse (s.bufferBytes 16)).2))) :=
  turns_trans (csdBytes_read hb hseq hsize (a := 15) (by decide))
    (turns_of_turn (n := 0) (turn_finish hb rfl (moveOn_csdByteRead 15 s)) rfl)

end Run

theorem startStage_csdParse (op : BitVec 8) : op.setWidth 32 = 12#32 → startStage op = .csdParse [] := by
  revert op; decide

/-- Settles O41: the `CTRL` write starts the operation, and `csdParse_completes` runs it; besides the request latch and the
completion only the byte read last has changed. -/
theorem csdParseOperation : Obligations.CsdParseOperation := by
  intro s r v hin hb hv hsize
  rw [ctrl_and_eq] at hv
  obtain ⟨u, hu⟩ : ∃ u, u = start (v.extractLsb' 0 8) (.csdParse []) { s with inputs := r } := ⟨_, rfl⟩
  have hstep : step s = .next u := by rw [step_write hin, hostWrite_ctrl, startStage_csdParse _ hv, hu]
  replace hu := hu.trans (start_idle _ _ hb)
  have hrun := csdParse_completes (s := u) (by rw [hu]) (by rw [hu]) (by rwa [hu])
  have hside := turns_sameHostSide hrun
  subst hu
  exact ⟨_, _, hstep, rfl, hrun, ⟨rfl, rfl, rfl, rfl⟩, ⟨rfl, rfl, rfl, rfl, rfl, rfl, rfl, rfl, rfl⟩, ⟨rfl, rfl, rfl⟩, rfl, rfl,
    rfl, rfl, hside⟩

end Sys2Proof.Machine
end

section
/-! PROOFS. The completion step and the result codes (O32). -/

namespace Sys2Proof.Machine

/-- A due completion sends nothing, and is performed (R282). -/
theorem issue_finish {s : State} {e : Err} {v : Word} (hp : s.seq.point = .finish e v) :
    issue s = .next (complete e v s) := by
  have hsend : toSend s = none := by simp only [toSend, hp]
  rw [issue_perform hsend]
  simp only [perform, hp]

/-- Every code is one of R280's table; 10-15 are never produced. -/
theorem errCode_le_nine (e : Err) : e.code.toNat ≤ 9 := by
  cases e <;> decide

/-- Settles O32: a completion that is due is performed by `complete` (`issue_finish`), which leaves free values in the five counting
registers. -/
theorem completionAndCodes : Obligations.CompletionAndCodes := by
  refine ⟨fun st e v s hseq => ?_, rfl, errCode_le_nine⟩
  have hp : s.seq.point = .finish e v := congrArg Seq.point hseq
  exact ⟨_, _, _, _, _, _, issue_finish hp⟩

end Sys2Proof.Machine
end

section
/-! PROOFS. Where chip select and the clock change (O50): the primitive of each change stands at one place of the machine, and the
card is selected only by the move that follows the last dummy byte. -/

namespace Sys2Proof.Machine

/-! ### The positions of the output changes -/

/-- Quiet outputs with chip select released belong to no session (R128). -/
theorem State.quiet.not_ready {s : State} (h : s.quiet) (hcs : s.cs = false) : s.lifecycle ≠ .ready := by
  obtain ⟨hready, -⟩ := h.outputs
  exact fun hl => absurd (hcs.symm.trans (hready hl).1) Bool.false_ne_true

theorem State.sessionOpen.cs_ne_false {s : State} (h : s.sessionOpen) : s.cs ≠ false := by
  obtain ⟨-, hcs, -⟩ := h
  exact ne_false_of_eq_true hcs

theorem State.selectedSlow.cs_ne_false {s : State} {l : Lifecycle} (h : s.selectedSlow l) : s.cs ≠ false := by
  obtain ⟨-, hcs, -⟩ := h
  exact ne_false_of_eq_true hcs

section Positions
variable {s : State} (hpos : s.positionOk)
include hpos

/-- The card is selected only at the end of the dummy clocks (R184). -/
theorem stage_of_csAssert (hp : s.seq.point = .csAssert) : s.seq.stage = .initStart := by
  unfold State.positionOk at hpos
  rw [hp] at hpos
  cases hst : s.seq.stage <;> rw [hst] at hpos
  all_goals simp [Point.inCommand, Point.inExtCommand, Point.inRead, Point.inWrite, Point.inBusy] at hpos

/-- Chip select is released and the clock made slow only in Teardown (R200). -/
theorem stage_of_teardownPoint (hp : s.seq.point = .tdCs ∨ s.seq.point = .tdClk) :
    ∃ k, s.seq.stage = .tearingDown k := by
  unfold State.positionOk at hpos
  cases hst : s.seq.stage
  case tearingDown k => exact ⟨k, rfl⟩
  all_goals
    rw [hst] at hpos
    rcases hp with hp | hp <;> rw [hp] at hpos <;>
      simp [Point.inCommand, Point.inExtCommand, Point.inRead, Point.inWrite, Point.inBusy] at hpos

/-- Where the card is not selected the dummy clocks run, or Teardown is under way, or an operation without a session stands at
one of its first points (R126, R183). -/
theorem positionOk_deselected_cases (hcs : s.cs = false) :
    (∃ k ≤ 10, s.seq.stage = .initStart ∧ s.seq.point = .dummy k) ∨
      (s.seq.point = .tdCs ∨ s.seq.point = .tdClk) ∨
      s.lifecycle ≠ .ready ∧ (s.seq.point = .start ∨ s.seq.point = .present ∨ ∃ a, s.seq.point = .pureGet a) := by
  unfold State.positionOk at hpos
  cases hst : s.seq.stage <;> rw [hst] at hpos
  case initReset | initVcheck | initCrcen | initOcr | initApp | initOpCond | initCap | initBlklen =>
    exact absurd hcs hpos.2.cs_ne_false
  case readBlockCmd | readBlockData | writeBlockCmd | writeBlockData | writeBlockBusy | readBlocksStop | readBlocksBusy |
      writeBlocksStop | sectorCountCmd | sectorCountData => exact absurd hcs hpos.2.cs_ne_false
  case readBlocksCmd | readBlocksData | preErasePrefix | preEraseCount | writeBlocksCmd | writeBlocksData |
      writeBlocksBusy => exact absurd hcs hpos.2.1.cs_ne_false
  case initReady =>
    obtain ⟨-, -, hsel, -⟩ := hpos
    exact absurd hcs (ne_false_of_eq_true hsel)
  case idle => exact hpos.elim
  case tearingDown => exact .inr (.inl (hpos.1.imp_right And.left))
  case reserved | isBlockAddressed | teardownOp => exact .inr (.inr ⟨hpos.2.not_ready hcs, .inl hpos.1⟩)
  case cardPresent | readBlock | writeBlock | readBlocks | writeBlocks | sectorCount =>
    exact .inr (.inr ⟨hpos.2.not_ready hcs, hpos.1.imp_right .inl⟩)
  case initStart =>
    cases hp : s.seq.point <;> rw [hp] at hpos
    case start => exact .inr (.inr ⟨hpos.not_ready hcs, .inl rfl⟩)
    case present =>
      obtain ⟨hl, -⟩ := hpos
      exact .inr (.inr ⟨by rw [hl]; decide, .inr (.inl rfl)⟩)
    case dummy k =>
      obtain ⟨-, hk, -⟩ := hpos
      exact .inl ⟨k, hk, rfl, rfl⟩
    case csAssert => exact absurd hcs hpos.cs_ne_false
    all_goals exact hpos.elim
  case crc7 | crc16 =>
    cases hp : s.seq.point <;> rw [hp] at hpos
    case start => exact .inr (.inr ⟨hpos.not_ready hcs, .inl rfl⟩)
    case pureGet a =>
      obtain ⟨-, -, hq⟩ := hpos
      exact .inr (.inr ⟨hq.not_ready hcs, .inr (.inr ⟨a, rfl⟩)⟩)
    all_goals exact hpos.elim
  case csdParse =>
    cases hp : s.seq.point <;> rw [hp] at hpos
    case start => exact .inr (.inr ⟨hpos.2.not_ready hcs, .inl rfl⟩)
    case pureGet a =>
      obtain ⟨-, -, hq⟩ := hpos
      exact .inr (.inr ⟨hq.not_ready hcs, .inr (.inr ⟨a, rfl⟩)⟩)
    all_goals exact hpos.elim

end Positions

/-! ### The move that selects the card -/

section Due
variable (s : State)

theorem entry_not_csAssert : (entry s).seq.point ≠ .csAssert := by
  unfold entry beginCrc
  repeat' split
  all_goals nofun

theorem afterPureGet_not_csAssert (a : Nat) : (afterPureGet a s).seq.point ≠ .csAssert := by
  unfold afterPureGet
  repeat' split
  all_goals nofun

/-- Without a session an operation that needs one goes no further (R220). -/
theorem preSession_not_csAssert (k : State → State) (hl : s.lifecycle ≠ .ready) :
    (preSession k s).seq.point ≠ .csAssert := by
  unfold preSession
  rw [if_pos hl]
  split <;> nofun

theorem afterPresent_not_csAssert (hl : s.lifecycle ≠ .ready) : (afterPresent s).seq.point ≠ .csAssert := by
  unfold afterPresent
  split
  · split <;> nofun
  · unfold afterDetect; split <;> nofun
  case h_8 => nofun
  all_goals exact preSession_not_csAssert s _ hl

end Due

/-- From a deselected card, the assertion of chip select is due only after the last dummy byte (R121, R184). -/
theorem seq_of_csAssert_due {s : State} (hd : s.seq.done = true) (hpos : s.positionOk) (hcs : s.cs = false)
    (hdue : (moveOn s).seq.point = .csAssert) : s.seq = ⟨.initStart, .dummy 10, true⟩ := by
  rcases positionOk_deselected_cases hpos hcs with ⟨k, hk, hst, hp⟩ | hp | ⟨hl, hp | hp | ⟨a, hp⟩⟩
  · have hseq : s.seq = ⟨.initStart, .dummy k, true⟩ := by rw [← hst, ← hp, ← hd]
    rw [moveOn_dummy hseq, State.due_seq] at hdue
    split_ifs at hdue with hlt
    obtain rfl : k = 10 := by omega
    exact hseq
  · obtain ⟨k, hst⟩ := stage_of_teardownPoint hpos hp
    rcases moveOn_of_tearingDown hd hpos hst with hmv | ⟨-, hmv⟩ <;> rw [hmv] at hdue
    · cases hdue
    · cases k <;> cases hdue
  · simp only [moveOn, advance, hp] at hdue
    exact absurd hdue (entry_not_csAssert s)
  · simp only [moveOn, advance, hp] at hdue
    exact absurd hdue (afterPresent_not_csAssert s hl)
  · simp only [moveOn, advance, hp] at hdue
    exact absurd hdue (afterPureGet_not_csAssert s a)

/-! ### The changes of a step -/

/-- What a step other than the reset does with chip select and the clock (R121, R122): it keeps both, or it is one of the four
steps that set one of them, without an exchange. -/
inductive OutputStep (s t : State) : Prop
  | kept (hcs : t.cs = s.cs) (hclk : t.clkFast = s.clkFast)
  | selects (hfrom : s.cs = false → s.seq = ⟨.initStart, .dummy 10, true⟩)
    (hseq : t.seq = ⟨.initStart, .csAssert, true⟩) (hcs : t.cs = true) (hclk : t.clkFast = s.clkFast)
    (hx : t.xchgs = s.xchgs)
  | deselects (k : AfterTeardown) (hseq : t.seq = ⟨.tearingDown k, .tdCs, true⟩) (hcs : t.cs = false)
    (hclk : t.clkFast = s.clkFast) (hx : t.xchgs = s.xchgs)
  | speedsUp (hseq : t.seq = ⟨.initReady, .clkFast, true⟩) (hcs : t.cs = s.cs) (hclk : t.clkFast = true)
    (hx : t.xchgs = s.xchgs)
  | slowsDown (k : AfterTeardown) (hseq : t.seq = ⟨.tearingDown k, .tdClk, true⟩) (hcs : t.cs = s.cs)
    (hclk : t.clkFast = false) (hx : t.xchgs = s.xchgs)

/-- Of the primitives only `SetCS` and `SetClk` set an output (R121, R122). -/
theorem Performed.outputs {u t : State} (h : Performed u t) :
    t.cs = u.cs ∧ t.clkFast = u.clkFast ∨
      (∃ v, u.seq.point = (if v then .csAssert else .tdCs) ∧ t = setCs v u) ∨
      ∃ v, u.seq.point = (if v then .clkFast else .tdClk) ∧ t = setClk v u := by
  cases h with
  | chipSelectSet v hp => exact .inr (.inl ⟨v, hp, rfl⟩)
  | clockSet v hp => exact .inr (.inr ⟨v, hp, rfl⟩)
  | timeSampled => exact .inl ⟨sampleNow_cs u, sampleNow_clkFast u⟩
  | _ => exact .inl ⟨rfl, rfl⟩

theorem turn_outputStep {s t : State} (hi : s.Inv) (h : turn s = .next t) : OutputStep s t := by
  cases hb : s.busy with
  | false =>
    cases (turn_idle hb).symm.trans h
    exact .kept rfl rfl
  | true =>
    obtain ⟨hd, hpos⟩ := hi.position hb
    obtain ⟨hd', -⟩ | ⟨-, hp⟩ := performed_of_turn hb h
    · exact absurd (hd'.symm.trans hd) Bool.false_ne_true
    have hcs : (moveOn s).cs = s.cs := moveOn_outside_field State.cs (fun _ => rfl) s
    have hclk : (moveOn s).clkFast = s.clkFast := moveOn_outside_field State.clkFast (fun _ => rfl) s
    have hx : (moveOn s).xchgs = s.xchgs := moveOn_outside_field State.xchgs (fun _ => rfl) s
    have hbusy : (moveOn s).busy = true := (moveOn_outside_field State.busy (fun _ => rfl) s).trans hb
    have hrest : t.busy = true → t.positionOk := fun hbt => ((turn_inv hi h).position hbt).2
    rcases hp.outputs with ⟨hcs', hclk'⟩ | ⟨v, hdue, rfl⟩ | ⟨v, hdue, rfl⟩
    · exact .kept (hcs'.trans hcs) (hclk'.trans hclk)
    · cases v with
      | true =>
        have hst := stage_of_csAssert (hrest hbusy) hdue
        exact .selects (fun hoff => seq_of_csAssert_due hd hpos hoff hdue) (congrArg₂ (Seq.mk · · true) hst hdue) rfl hclk hx
      | false =>
        obtain ⟨k, hst⟩ := stage_of_teardownPoint (hrest hbusy) (.inl hdue)
        exact .deselects k (congrArg₂ (Seq.mk · · true) hst hdue) rfl hclk hx
    · cases v with
      | true =>
        have hst := stage_of_clkFast (hrest hbusy) hdue
        exact .speedsUp (congrArg₂ (Seq.mk · · true) hst hdue) hcs rfl hx
      | false =>
        obtain ⟨k, hst⟩ := stage_of_teardownPoint (hrest hbusy) (.inr hdue)
        exact .slowsDown k (congrArg₂ (Seq.mk · · true) hst hdue) hcs rfl hx

/-- A host or environment event other than the reset leaves the outputs. -/
theorem Event.outputs {s t : State} (h : Event s t) : t.cs = s.cs ∧ t.clkFast = s.clkFast := by
  cases h with
  | started r op => unfold start; split <;> exact ⟨rfl, rfl⟩
  | _ => exact ⟨rfl, rfl⟩

/-- Each kind of step makes its own change and no other: the clauses of O50. -/
theorem OutputStep.changes {s t : State} (h : OutputStep s t) :
    (s.cs = false ∧ t.cs = true → s.seq = ⟨.initStart, .dummy 10, true⟩ ∧ t.seq = ⟨.initStart, .csAssert, true⟩) ∧
    (s.cs = true ∧ t.cs = false → ∃ k, t.seq = ⟨.tearingDown k, .tdCs, true⟩) ∧
    (s.clkFast = false ∧ t.clkFast = true → t.seq = ⟨.initReady, .clkFast, true⟩) ∧
    (s.clkFast = true ∧ t.clkFast = false → ∃ k, t.seq = ⟨.tearingDown k, .tdClk, true⟩) ∧
    (s.cs ≠ t.cs ∨ s.clkFast ≠ t.clkFast → t.xchgs = s.xchgs) := by
  cases h with
  | kept hcs hclk => simp +contextual [hcs, hclk]
  | selects hfrom hseq hcs hclk hx => simp +contextual [hseq, hcs, hclk, hx, hfrom]
  | deselects k hseq hcs hclk hx => simp +contextual [hseq, hcs, hclk, hx]
  | speedsUp hseq hcs hclk hx => simp +contextual [hseq, hcs, hclk, hx]
  | slowsDown k hseq hcs hclk hx => simp +contextual [hseq, hcs, hclk, hx]

/-- Settles O50: a controller's step is one of `OutputStep` (`turn_outputStep`); no other event but the reset touches the
outputs. -/
theorem chipSelectAndClockChange : Obligations.ChipSelectAndClockChange := by
  intro s t hi hnr h
  rcases step_cases h with ⟨r, hturn⟩ | ⟨r, hin, -⟩ | hev
  · exact (turn_outputStep (s := { s with inputs := r }) (hi.withInputs r) hturn).changes
  · exact absurd (by rw [hin]; rfl) hnr
  · obtain ⟨hcs, hclk⟩ := hev.outputs
    exact (OutputStep.kept hcs hclk).changes

end Sys2Proof.Machine
end
